-- ==== Sys2Proof/Word.lean ====
section
/-! DEFINITION. The words that the spec treats as bits (00, Conventions; 04, R75, R77): the byte, the two-byte field,
the 11-bit character of the share line, and the station identity. Quantities (forces, speeds, counts) are plain numbers. -/

namespace Sys2Proof

/-- A data byte of a character, of a frame or of the configuration memory. -/
abbrev Byte := BitVec 8

/-- A field of two bytes; also the CRC register (R78). -/
abbrev Half := BitVec 16

/-- The 11 bits of one share-line character in line order: bit 0 start, bits 1 to 8 data, bit 9 mark, bit 10 stop (R75). -/
abbrev Character := BitVec 11

/-- A station identity, 0 to 7 (00, Conventions). -/
abbrev Ident := Fin 8

end Sys2Proof
end

