-- ==== Sys2Proof/Syntax.lean ====
section
/-! DEFINITION. The commands of the part, one constructor for each row of spec/opcode_table.json. The table gives its rows no
operands; an operand here is what the part samples at that event (pin levels, line bits, MISO bytes) or the line time
that the event's own rule speaks of (DESIGN CHOICE, log 1, log 2). -/

namespace Sys2Proof

inductive Instr where
  /-- POWER_ON (R157). -/
  | powerOn
  /-- RESETN: a low level on RESETn (R157). -/
  | resetn
  /-- CONFIGURATION_READ: the power-on reset has ended and RESETn is high; the levels of ID0-ID2 (R157, R176). -/
  | configurationRead (straps : BitVec 3)
  /-- SPI_TRANSACTION_END: the bytes clocked in on MISO, in order (R176, R177). -/
  | spiTransactionEnd (miso : List Byte)
  /-- PE_EVALUATION_EXPIRY (R1). -/
  | peEvaluationExpiry
  /-- DU_EVALUATION_EXPIRY: the readings of PA and PB and the code on STK0-STK2 (R34). -/
  | duEvaluationExpiry (pa pb : BitVec 10) (stk : BitVec 3)
  /-- AGE_EXPIRY (R70). -/
  | ageExpiry
  /-- SINK_EXPIRY: the readings of FB and TEMP and the code on POS0-POS2 (R136). -/
  | sinkExpiry (fb temp : BitVec 10) (pos : BitVec 3)
  /-- THERMAL_EXPIRY (R114). -/
  | thermalExpiry
  /-- AM_EVALUATION_EXPIRY (R122). -/
  | amEvaluationExpiry
  /-- STANDING_EXPIRY (R79). -/
  | standingExpiry
  /-- DEMAND_EXPIRY (R80). -/
  | demandExpiry
  /-- STC_EVALUATION_EXPIRY: the level of IGN (R156, R166). -/
  | stcEvaluationExpiry (ign : Bool)
  /-- PARK_TIMER_TICK (R169). -/
  | parkTimerTick
  /-- ENG_PULSE (R105). -/
  | engPulse
  /-- WHEEL_PULSE (R123). -/
  | wheelPulse
  /-- LINE_FREE_POINT: bit times of quiet since the last stop bit or the entry to LISTEN (R76, R159). -/
  | lineFreePoint (quiet : Nat)
  /-- ACCESS_WAIT_END: bit times since the access origin (R88). -/
  | accessWaitEnd (elapsed : Nat)
  /-- CHARACTER_READ_BACK: the character read back for the one sent, or none, and the level of IGN, which an entry to
  PARKED at this event samples (R90, R166). -/
  | characterReadBack (read : Option Character) (ign : Bool)
  /-- CHARACTER_RECEIVED: the character LP has sampled on RXD (R94). -/
  | characterReceived (ch : Character)
  /-- START_BIT (R76). -/
  | startBit
  deriving DecidableEq, Repr

end Sys2Proof
end

