-- ==== Sys2Proof/Config.lean ====
section
/-! DEFINITION. What one implementation fixes: the settings a station works from, as the two blocks of the configuration
memory give them (spec/09, R178). Every field holds the value AS READ; the values that count in their place (R181) are in
Machine/ConfigMemory.lean. The spec leaves no value of a running station open, so there is no free value here (log 27). -/

namespace Sys2Proof

/-- The three roles (00, Roles). -/
inductive Role where
  | exhaust
  | retarder
  | axle
  deriving DecidableEq, Repr

/-- One point of a curve (R102). -/
structure CurvePoint where
  x : Nat
  f : Nat
  deriving DecidableEq, Repr

/-- A curve of six points (R102). -/
structure Curve where
  p0 : CurvePoint
  p1 : CurvePoint
  p2 : CurvePoint
  p3 : CurvePoint
  p4 : CurvePoint
  p5 : CurvePoint
  deriving DecidableEq, Repr

/-- The shared block, bytes 0 to 45 (R178). -/
structure SharedCfg where
  lineRate : Nat
  staleAge : Nat
  absentAge : Nat
  demandAge : Nat
  demandHold : Nat
  listenPeriods : Nat
  slipRatio : Nat
  shortPeriods : Nat
  vrefHold : Nat
  warnHold : Nat
  parkDelay : Nat
  demandRamp : Nat
  contFallback : Nat
  slipMinSpeed : Nat
  shortMin : Nat
  deriving DecidableEq, Repr

/-- The local block, bytes 64 to 189 (R178). -/
structure LocalCfg where
  roleCode : Nat
  driveFlag : Bool
  demandSource : Bool
  n : Nat
  weight : Nat
  stepHold : Nat
  kmax : Nat
  lMax : Nat
  lFloor : Nat
  lRise : Nat
  riseWait : Nat
  sensorHold : Nat
  slewUp : Nat
  supTol : Nat
  supPeriods : Nat
  stalkHold : Nat
  tempCurve : Curve
  speedCurve : Curve
  guardOn : Nat
  guardOff : Nat
  guardFrac : Nat
  heatGain : Nat
  coolGain : Nat
  ambient : Nat
  powerOnTemp : Nat
  coldTime : Nat
  fbZero : Nat
  fbGain : Nat
  tempOffset : Int
  tempScale : Nat
  wheelScale : Nat
  pedalDead : Nat
  pedalGain : Nat
  pedalDiff : Nat
  stalkLevel1 : Nat
  stalkLevel2 : Nat
  stalkLevel3 : Nat
  stalkLevel4 : Nat
  kp : Nat
  ki : Nat
  deriving DecidableEq, Repr

/-- The configuration in force: both blocks, and the profile code the loader formed (R158, R179). -/
structure Cfg where
  shared : SharedCfg
  loc : LocalCfg
  profile : Half
  deriving DecidableEq, Repr

end Sys2Proof
end

