-- ==== Sys2Proof/Machine/State.lean ====
section
/-! DEFINITION. Everything the spec gives the part to hold, one structure per block, as plain data; what can stop the model;
and the state right after reset. INVENTORY.md lists every field with its rule and reset value. -/

namespace Sys2Proof.Machine

/-! ### What can stop the model -/

/-- No command stops the part: every fault the manual names is a state or a flag of the running machine (FAULT, DEGRADED,
speed-sensor fault, temperature hold, receive error), so there is no constructor and nothing raises one. Safe. -/
inductive Fault where
  deriving DecidableEq, Repr

/-- Why a command has no meaning in the model. -/
inductive Refusal where
  /-- A row of the table whose meaning the model has not been given; raised by an arm of `exec` alone. Safe. Every row has
  its meaning, so nothing raises it. -/
  | notModelled (mnemonic : String)
  deriving DecidableEq, Repr

/-! ### The station controller (spec/08) and the loader (spec/09) -/

/-- The seven station states (R156). -/
inductive StationState where
  | config
  | listen
  | active
  | localOnly
  | leaving
  | parked
  | fault
  deriving DecidableEq, Repr

/-- Why the station is in FAULT (R165). -/
inductive FaultCause where
  | none
  | config
  | dupId
  deriving DecidableEq, Repr

/-- STC's own state (R175). -/
structure Stc where
  state : StationState
  cause : FaultCause
  id : Ident
  listenCount : Nat
  ignOffCount : Nat
  leaveCount : Nat
  parkTimer : Nat
  warnHold : Nat
  deriving DecidableEq, Repr

/-- What the loader is doing (R176): no read in progress, or the transaction of one of the two blocks. -/
inductive LoadPhase where
  | idle
  | sharedBlock
  | localBlock
  deriving DecidableEq, Repr

/-- The loader: the block being read, whether that block's first read has failed, the bytes of the accepted shared block
and the profile code formed from it (R176, R177, R179). -/
structure Loader where
  phase : LoadPhase
  firstFailed : Bool
  sharedBytes : List Byte
  profile : Half
  deriving DecidableEq, Repr

/-! ### Statements (spec/04, R77) -/

/-- The payload of a STANDING, field by field (R77). -/
structure StandingFields where
  role : BitVec 2
  drive : Bool
  guard : Bool
  speedFault : Bool
  profile : Half
  capacity : Half
  take : Half
  limit : Half
  wheel : Half
  weight : BitVec 8
  n : BitVec 4
  k : BitVec 4
  deriving DecidableEq, Repr

/-- An alert: a code, a subject identity and a detail (R77, R84). -/
structure Alert where
  code : BitVec 8
  subject : BitVec 8
  detail : Half
  deriving DecidableEq, Repr

/-- A statement, as formed for sending or as received (R77). -/
inductive Statement where
  | standing (f : StandingFields)
  | demand (value : Half)
  | alert (a : Alert)
  | leave
  deriving DecidableEq, Repr

/-! ### The statement transmitter (spec/04, R81 to R87) -/

/-- The three classes of transmit slot (R81). -/
inductive SlotClass where
  | urgent
  | demand
  | standing
  deriving DecidableEq, Repr

/-- A statement held in a slot: its number if assigned, and the failed attempts, 0 to 2 (R81). -/
structure Held where
  stmt : Statement
  seq : Option (BitVec 8)
  failed : Nat
  deriving DecidableEq, Repr

/-- A transmit slot (R81). `noRetry` is set on a SENDING slot by entry to LOCAL or LEAVING: its frame goes on, and a failed
attempt then leaves the slot EMPTY (R87, R101). -/
inductive Slot where
  | empty
  | pending (h : Held)
  | sending (h : Held) (followUp : Option Statement) (noRetry : Bool)
  deriving DecidableEq, Repr

/-- STX's state. -/
structure Stx where
  urgent : Slot
  demand : Slot
  standing : Slot
  queue : List Alert
  seq : BitVec 8
  deriving DecidableEq, Repr

/-! ### The line port (spec/04) -/

/-- The line state (R76). -/
inductive LineState where
  | busy
  | free
  deriving DecidableEq, Repr

/-- The event that last set the access origin (R88). The time since it is an operand of ACCESS_WAIT_END (log 2). -/
inductive AccessOrigin where
  | unset
  | lineFreePoint
  | slotPending
  deriving DecidableEq, Repr

/-- The frame under way: its slot, its bytes from header to CRC, and the position (from 0) of the character being sent.
DE is asserted exactly while there is one (R90). -/
structure TxFrame where
  cls : SlotClass
  bytes : List Byte
  idx : Nat
  deriving DecidableEq, Repr

/-- How the own character that has just ended left the transmission, kept until the receiver has taken that same character
or another begins. It lets R95 and R96 know that the character was under DE and whether the frame completed, whichever of
CHARACTER_READ_BACK and CHARACTER_RECEIVED comes first (DEDUCED, log 5). -/
inductive CharTail where
  | none
  | collided
  | completed
  deriving DecidableEq, Repr

/-- A frame being received: the bytes so far, the length its kind fixes, whether its header began under own DE (R94), and
whether own DE was asserted at every character of it so far (R96). -/
structure RxFrame where
  bytes : List Byte
  expected : Nat
  begunDE : Bool
  allDE : Bool
  deriving DecidableEq, Repr

/-- The receiver (R94). -/
inductive Receiver where
  | disarmed
  | hunting
  | inFrame (f : RxFrame)
  deriving DecidableEq, Repr

/-- The standing, a function of the trouble count (R99). -/
inductive Standing where
  | speaking
  | restrained
  | silent
  deriving DecidableEq, Repr

/-- LP's state. -/
structure Lp where
  line : LineState
  origin : AccessOrigin
  tx : Option TxFrame
  tail : CharTail
  rx : Receiver
  trouble : Nat
  recovery : Nat
  deriving DecidableEq, Repr

/-! ### The peer table (spec/03) -/

/-- The state of a record (R54); an EMPTY slot holds no record. -/
inductive RecordState where
  | fresh
  | stale
  | left
  | mismatch
  deriving DecidableEq, Repr

/-- The axle part of a record, as received (R53). -/
structure AxlePart where
  limit : Half
  weight : BitVec 8
  wheel : Half
  deriving DecidableEq, Repr

/-- The exhaust part of a record, as received (R53). -/
structure ExhaustPart where
  n : BitVec 4
  k : BitVec 4
  deriving DecidableEq, Repr

/-- The demand part of a record (R53). -/
structure DemandPart where
  value : Half
  age : Nat
  deriving DecidableEq, Repr

/-- The alert part of a record (R53). -/
structure AlertPart where
  code : BitVec 8
  subject : BitVec 8
  degradedPending : Bool
  deriving DecidableEq, Repr

/-- A record: the fields of R52 and the optional parts of R53. -/
structure PeerRecord where
  state : RecordState
  role : Role
  drive : Bool
  guard : Bool
  speedFault : Bool
  profile : Half
  seq : BitVec 8
  age : Nat
  capacity : Half
  take : Half
  axle : Option AxlePart
  exhaust : Option ExhaustPart
  demand : Option DemandPart
  alert : Option AlertPart
  deriving DecidableEq, Repr

/-- The eight slots; `none` is EMPTY (R51). -/
structure PeerTable where
  p0 : Option PeerRecord
  p1 : Option PeerRecord
  p2 : Option PeerRecord
  p3 : Option PeerRecord
  p4 : Option PeerRecord
  p5 : Option PeerRecord
  p6 : Option PeerRecord
  p7 : Option PeerRecord
  deriving DecidableEq, Repr

/-! ### The plan engine (spec/01, spec/10) -/

/-- The values of the latest plan (R31). -/
structure LatestPlan where
  share : Nat
  step : Nat
  ownDrive : Bool
  t1 : Nat
  t2 : Nat
  s : Nat
  deriving DecidableEq, Repr

/-- PE's state: the latest plan, and the shortfall state with its run count (R183). -/
structure Pe where
  plan : LatestPlan
  shortfall : Bool
  run : Nat
  deriving DecidableEq, Repr

/-! ### The demand unit (spec/02) -/

/-- The pedal condition (R36). -/
inductive PedalCondition where
  | clear
  | disagree
  | bothInvalid
  deriving DecidableEq, Repr

/-- The state of the speed-hold controller (R40). -/
inductive HoldState where
  | off
  | pending
  | holding
  deriving DecidableEq, Repr

/-- The loss phase (R46). -/
inductive LossPhase where
  | unsourced
  | sourced
  | holding
  | ramping
  deriving DecidableEq, Repr

/-- DU's state. -/
structure Du where
  pedal : PedalCondition
  stalk : Nat
  invalidCount : Nat
  hold : HoldState
  target : Nat
  integral : Nat
  holdDemand : Nat
  own : Nat
  d : Nat
  phase : LossPhase
  lossCount : Nat
  deriving DecidableEq, Repr

/-! ### Capacity and the thermal estimate (spec/05) -/

/-- CU's state. `code` is the temperature code in force, or the spec's own "none" (R112). `engOpen` says that the first
window after CONFIG or wake has started (R105). -/
structure Cu where
  code : Option Nat
  speedIndex : Nat
  engSpeed : Nat
  engPulses : Nat
  engOpen : Bool
  fT : Nat
  fS : Nat
  raw : Nat
  guarded : Bool
  capacity : Nat
  deriving DecidableEq, Repr

/-- TE's state: the estimate, in estimate units (R113). -/
structure Te where
  theta : Nat
  deriving DecidableEq, Repr

/-! ### The adhesion monitor (spec/06) -/

/-- The state of the reference speed (R125). -/
inductive VrefState where
  | available
  | held
  | unavailable
  deriving DecidableEq, Repr

/-- AM's state. `windowOpen` says that the first window after CONFIG or wake has started (R123); `woken` says that the station
has woken from PARKED and no window has closed since (R135). -/
structure Am where
  w : Nat
  pulses : Nat
  windowOpen : Bool
  woken : Bool
  vref : Nat
  vrefState : VrefState
  vrefHold : Nat
  limit : Nat
  spacing : Nat
  rise : Nat
  faultCount : Nat
  faultFlag : Bool
  deriving DecidableEq, Repr

/-! ### The sink controller (spec/07) -/

/-- Why the sink is DEGRADED (R151): causes 1, 2 and 3. -/
inductive DegradedCause where
  | none
  | tolerance
  | feedbackRange
  | positionRange
  deriving DecidableEq, Repr

/-- SC's state; `degraded` is the sink state (clear for NORMAL). -/
structure Sc where
  c : Nat
  kNow : Nat
  riseHold : Nat
  take : Nat
  degraded : Bool
  cause : DegradedCause
  supCount : Nat
  tempHoldCount : Nat
  tempHold : Bool
  deriving DecidableEq, Repr

/-! ### The pins (spec/00) -/

/-- The levels and readings of the input pins as a command last presented them. RXD, WHEEL, ENG and MISO act through the
events themselves. -/
structure InPins where
  straps : BitVec 3
  resetn : Bool
  pa : BitVec 10
  pb : BitVec 10
  stk : BitVec 3
  ign : Bool
  fb : BitVec 10
  temp : BitVec 10
  pos : BitVec 3
  deriving DecidableEq, Repr

/-- The output pins. `txd` is the character being sent, or none while TXD idles at 1; `csn` is the level of CSn; `mosi` is
what the transaction in progress has sent on MOSI. -/
structure OutPins where
  drive : BitVec 10
  exs : BitVec 3
  de : Bool
  txd : Option Character
  csn : Bool
  mosi : List Byte
  warn : Bool
  fault : Bool
  deriving DecidableEq, Repr

/-! ### The whole part -/

/-- The part, and the queue of commands that wait, first in first out. -/
structure State where
  cfg : Cfg
  stc : Stc
  loader : Loader
  lp : Lp
  stx : Stx
  pt : PeerTable
  pe : Pe
  du : Du
  cu : Cu
  te : Te
  am : Am
  sc : Sc
  inp : InPins
  out : OutPins
  pending : List Instr
  deriving DecidableEq, Repr

/-! ### Reset -/

/-- A curve of zeros, before a configuration is in force (DESIGN CHOICE, log 9). -/
def Curve.blank : Curve :=
  let z : CurvePoint := { x := 0, f := 0 }
  { p0 := z, p1 := z, p2 := z, p3 := z, p4 := z, p5 := z }

/-- What stands in place of a configuration while none is in force (DESIGN CHOICE, log 9); nothing reads it. -/
def Cfg.blank : Cfg where
  shared :=
    { lineRate := 0, staleAge := 0, absentAge := 0, demandAge := 0, demandHold := 0, listenPeriods := 0, slipRatio := 0
      shortPeriods := 0, vrefHold := 0, warnHold := 0, parkDelay := 0, demandRamp := 0, contFallback := 0
      slipMinSpeed := 0, shortMin := 0 }
  loc :=
    { roleCode := 0, driveFlag := false, demandSource := false, n := 0, weight := 0, stepHold := 0, kmax := 0, lMax := 0
      lFloor := 0, lRise := 0, riseWait := 0, sensorHold := 0, slewUp := 0, supTol := 0, supPeriods := 0, stalkHold := 0
      tempCurve := Curve.blank, speedCurve := Curve.blank, guardOn := 0, guardOff := 0, guardFrac := 0, heatGain := 0
      coolGain := 0, ambient := 0, powerOnTemp := 0, coldTime := 0, fbZero := 0, fbGain := 0, tempOffset := 0
      tempScale := 0, wheelScale := 0, pedalDead := 0, pedalGain := 0, pedalDiff := 0, stalkLevel1 := 0
      stalkLevel2 := 0, stalkLevel3 := 0, stalkLevel4 := 0, kp := 0, ki := 0 }
  profile := 0

/-- STC at the entry to CONFIG (R175). The own identity is sampled at the read start; until then 0 (DESIGN CHOICE, log 10). -/
def Stc.powerOn : Stc :=
  { state := .config, cause := .none, id := 0, listenCount := 0, ignOffCount := 0, leaveCount := 0, parkTimer := 0
    warnHold := 0 }

/-- The loader at every entry to CONFIG: all it held is discarded (R176). -/
def Loader.powerOn : Loader := { phase := .idle, firstFailed := false, sharedBytes := [], profile := 0 }

/-- LP at the entry to CONFIG (R101); line state and origin are DESIGN CHOICES (log 10), set anew at entry to LISTEN. -/
def Lp.powerOn : Lp :=
  { line := .busy, origin := .unset, tx := none, tail := .none, rx := .disarmed, trouble := 0, recovery := 0 }

/-- STX at the entry to CONFIG (R83, R85, R101). -/
def Stx.powerOn : Stx := { urgent := .empty, demand := .empty, standing := .empty, queue := [], seq := 0 }

/-- The table with every slot EMPTY (R74). -/
def PeerTable.empty : PeerTable :=
  { p0 := none, p1 := none, p2 := none, p3 := none, p4 := none, p5 := none, p6 := none, p7 := none }

/-- The empty plan (R31). -/
def LatestPlan.empty : LatestPlan := { share := 0, step := 0, ownDrive := false, t1 := 0, t2 := 0, s := 0 }

/-- PE with the empty plan and the shortfall state OFF (R33, R187). -/
def Pe.idle : Pe := { plan := LatestPlan.empty, shortfall := false, run := 0 }

/-- DU at the entry to CONFIG (R50). -/
def Du.powerOn : Du :=
  { pedal := .clear, stalk := 0, invalidCount := 0, hold := .off, target := 0, integral := 0, holdDemand := 0, own := 0
    d := 0, phase := .unsourced, lossCount := 0 }

/-- CU at the entry to CONFIG (R121); speed index, fractions and raw capacity are DESIGN CHOICES (log 10). -/
def Cu.powerOn : Cu :=
  { code := none, speedIndex := 0, engSpeed := 0, engPulses := 0, engOpen := false, fT := 0, fS := 0, raw := 0
    guarded := false, capacity := 0 }

/-- TE through CONFIG: the spec gives the estimate no value (DESIGN CHOICE 0, log 8). -/
def Te.powerOn : Te := { theta := 0 }

/-- AM at the entry to CONFIG (R135); the spec gives L no value (DESIGN CHOICE 0, log 8). -/
def Am.powerOn : Am :=
  { w := 0, pulses := 0, windowOpen := false, woken := false, vref := 0, vrefState := .unavailable, vrefHold := 0
    limit := 0, spacing := 255, rise := 0, faultCount := 0, faultFlag := false }

/-- SC at the entry to CONFIG (R154). -/
def Sc.powerOn : Sc :=
  { c := 0, kNow := 0, riseHold := 0, take := 0, degraded := false, cause := .none, supCount := 0, tempHoldCount := 0
    tempHold := false }

/-- The input pins before any command has presented a level (DESIGN CHOICE, log 10). -/
def InPins.powerOn : InPins :=
  { straps := 0, resetn := true, pa := 0, pb := 0, stk := 0, ign := false, fb := 0, temp := 0, pos := 0 }

/-- The output pins in CONFIG with no read in progress: outputs 0, DE released, CSn high, WARN released, FAULT asserted
(R101, R154, R157, R176). -/
def OutPins.powerOn : OutPins :=
  { drive := 0, exs := 0, de := false, txd := none, csn := true, mosi := [], warn := false, fault := true }

/-- The part right after reset: CONFIG, every block at its power-on values (R157, section 8.8), no command waiting. -/
def State.reset : State :=
  { cfg := Cfg.blank, stc := Stc.powerOn, loader := Loader.powerOn, lp := Lp.powerOn, stx := Stx.powerOn
    pt := PeerTable.empty, pe := Pe.idle, du := Du.powerOn, cu := Cu.powerOn, te := Te.powerOn, am := Am.powerOn
    sc := Sc.powerOn, inp := InPins.powerOn, out := OutPins.powerOn, pending := [] }

end Sys2Proof.Machine
end

