-- ==== Sys2Proof/Machine/Operands.lean ====
section
/-! DEFINITION. The forms in which values come in and go out: byte order (R77, R178), the bits of a character (R75), the levels
of the input pins, and the small arithmetic the rules share (rounding, clamping, sequence order). -/

namespace Sys2Proof.Machine

/-! ### Arithmetic (spec/00, Arithmetic) -/

/-- `clamp(x, 0, hi)` of a signed value. -/
def clampNat (x : Int) (hi : Nat) : Nat := min x.toNat hi

/-- Division rounded up, the one of R145. -/
def divUp (a b : Nat) : Nat := (a + b - 1) / b

/-! ### Byte order: high byte first (R77, R178) -/

/-- The two bytes of a two-byte field, high byte first. -/
def hiLo (h : Half) : List Byte := [h.extractLsb' 8 8, h.extractLsb' 0 8]

/-- The two-byte field read from a high and a low byte. -/
def ofHiLo (hi lo : Byte) : Half := hi ++ lo

/-- The byte at a position of a byte list; a position past its end reads 0 (only an ill-formed operand has one, log 14). -/
def byteAt (bytes : List Byte) (i : Nat) : Byte := bytes.getD i 0

/-- The two-byte field at a position, high byte first. -/
def halfAt (bytes : List Byte) (i : Nat) : Half := ofHiLo (byteAt bytes i) (byteAt bytes (i + 1))

/-- A one-byte field as a number. -/
def natAt (bytes : List Byte) (i : Nat) : Nat := (byteAt bytes i).toNat

/-- A two-byte field as a number. -/
def nat2At (bytes : List Byte) (i : Nat) : Nat := (halfAt bytes i).toNat

/-! ### Characters (R75) -/

/-- The data byte, bits 1 to 8 of the character, least significant bit first. -/
def charData (c : Character) : Byte := c.extractLsb' 1 8

/-- The mark bit. -/
def charMark (c : Character) : Bool := c.getLsbD 9

/-- A good character: its stop bit is sampled as 1. A stop bit sampled as 0 is a framing error. -/
def charGood (c : Character) : Bool := c.getLsbD 10

/-- The character that carries a byte: start 0, the data, the mark, stop 1. -/
def charOf (mark : Bool) (b : Byte) : Character := 1#1 ++ BitVec.ofBool mark ++ b ++ 0#1

/-! ### Sequence order (spec/00; R57) -/

/-- `s` is newer than `r`: (s - r) mod 256 lies in 1 to 127. -/
def seqNewer (s r : BitVec 8) : Bool := 1 ≤ (s - r).toNat && (s - r).toNat ≤ 127

/-! ### Roles (R77, R178) -/

/-- The role a role code names; code 3 names none. -/
def roleOfCode : Nat → Option Role
  | 0 => some .exhaust
  | 1 => some .retarder
  | 2 => some .axle
  | _ => none

/-- The role code of a role. -/
def roleCodeOf : Role → BitVec 2
  | .exhaust => 0
  | .retarder => 1
  | .axle => 2

/-! ### The peer table's slots (R51) -/

/-- The slot of an identity. -/
def slotGet (t : PeerTable) (i : Ident) : Option PeerRecord :=
  match i with
  | 0 => t.p0
  | 1 => t.p1
  | 2 => t.p2
  | 3 => t.p3
  | 4 => t.p4
  | 5 => t.p5
  | 6 => t.p6
  | 7 => t.p7

/-- The table with the slot of an identity replaced. -/
def slotSet (t : PeerTable) (i : Ident) (r : Option PeerRecord) : PeerTable :=
  match i with
  | 0 => { t with p0 := r }
  | 1 => { t with p1 := r }
  | 2 => { t with p2 := r }
  | 3 => { t with p3 := r }
  | 4 => { t with p4 := r }
  | 5 => { t with p5 := r }
  | 6 => { t with p6 := r }
  | 7 => { t with p7 := r }

/-- Every slot put through one function. -/
def slotsMap (f : Option PeerRecord → Option PeerRecord) (t : PeerTable) : PeerTable :=
  { p0 := f t.p0, p1 := f t.p1, p2 := f t.p2, p3 := f t.p3, p4 := f t.p4, p5 := f t.p5, p6 := f t.p6, p7 := f t.p7 }

/-- The eight identities, ascending. -/
def idents : List Ident := [0, 1, 2, 3, 4, 5, 6, 7]

/-! ### One update for each part of the state -/

def State.setCfg (s : State) (x : Cfg) : State := { s with cfg := x }
def State.setStc (s : State) (x : Stc) : State := { s with stc := x }
def State.setLoader (s : State) (x : Loader) : State := { s with loader := x }
def State.setLp (s : State) (x : Lp) : State := { s with lp := x }
def State.setStx (s : State) (x : Stx) : State := { s with stx := x }
def State.setPt (s : State) (x : PeerTable) : State := { s with pt := x }
def State.setPe (s : State) (x : Pe) : State := { s with pe := x }
def State.setDu (s : State) (x : Du) : State := { s with du := x }
def State.setCu (s : State) (x : Cu) : State := { s with cu := x }
def State.setTe (s : State) (x : Te) : State := { s with te := x }
def State.setAm (s : State) (x : Am) : State := { s with am := x }
def State.setSc (s : State) (x : Sc) : State := { s with sc := x }
def State.setInp (s : State) (x : InPins) : State := { s with inp := x }
def State.setOut (s : State) (x : OutPins) : State := { s with out := x }
def State.setPending (s : State) (x : List Instr) : State := { s with pending := x }

/-! ### The input pins: a command's operands become the levels its event reads -/

/-- The levels of PA, PB and STK0-STK2 at a DU evaluation (R34). -/
def State.latchDriver (s : State) (pa pb : BitVec 10) (stk : BitVec 3) : State :=
  s.setInp { s.inp with pa := pa, pb := pb, stk := stk }

/-- The levels of FB, TEMP and POS0-POS2 at a sink expiry (R136). -/
def State.latchSink (s : State) (fb temp : BitVec 10) (pos : BitVec 3) : State :=
  s.setInp { s.inp with fb := fb, temp := temp, pos := pos }

/-- The level of IGN (R166). -/
def State.latchIgn (s : State) (ign : Bool) : State := s.setInp { s.inp with ign := ign }

/-- The level of RESETn (R157). -/
def State.latchResetn (s : State) (level : Bool) : State := s.setInp { s.inp with resetn := level }

/-- The straps ID0-ID2, with RESETn high (R157). -/
def State.latchStraps (s : State) (straps : BitVec 3) : State :=
  s.setInp { s.inp with straps := straps, resetn := true }

end Sys2Proof.Machine
end

