-- ==== Sys2Proof/Machine/Wire.lean ====
section
/-! DEFINITION. The share line's frames: the CRC (R78), the bytes of a statement (R77) and the statement read from bytes. -/

namespace Sys2Proof.Machine

/-! ### The CRC (R78) -/

/-- One bit: shift toward the high end, and combine with 1021 hexadecimal if the bit shifted out differs from the data bit. -/
def crcBit (r : Half) (b : Bool) : Half :=
  if r.msb == b then r <<< 1 else (r <<< 1) ^^^ 0x1021#16

/-- One byte, most significant bit first. -/
def crcByte (r : Half) (b : Byte) : Half :=
  [7, 6, 5, 4, 3, 2, 1, 0].foldl (fun r i => crcBit r (b.getLsbD i)) r

/-- The CRC of a byte list: the register starts with all bits 1, with no final inversion. -/
def crc (bytes : List Byte) : Half := bytes.foldl crcByte 0xFFFF#16

/-! ### From a statement to its frame (R77) -/

/-- The kind code of a statement. -/
def kindOf : Statement → BitVec 3
  | .standing _ => 0
  | .demand _ => 1
  | .alert _ => 2
  | .leave => 3

/-- The header byte: identity in bits 7 to 5, kind in bits 4 to 2, bits 1 to 0 zero. -/
def headerByte (id : Ident) (kind : BitVec 3) : Byte := BitVec.ofNat 3 id.val ++ kind ++ 0#2

/-- The flags byte of a STANDING: bits 1 to 0 role, 2 drive, 3 guard, 4 speed fault, 7 to 5 zero. -/
def flagsByte (f : StandingFields) : Byte :=
  0#3 ++ BitVec.ofBool f.speedFault ++ BitVec.ofBool f.guard ++ BitVec.ofBool f.drive ++ f.role

/-- The payload of a statement, positions 3 and on. -/
def payloadOf : Statement → List Byte
  | .standing f =>
    [flagsByte f] ++ hiLo f.profile ++ hiLo f.capacity ++ hiLo f.take ++ hiLo f.limit ++ hiLo f.wheel
      ++ [f.weight, f.n ++ f.k]
  | .demand v => hiLo v
  | .alert a => [a.code, a.subject] ++ hiLo a.detail
  | .leave => []

/-- Header, sequence and payload: the bytes the CRC covers. -/
def frameBody (id : Ident) (seq : BitVec 8) (stmt : Statement) : List Byte :=
  headerByte id (kindOf stmt) :: seq :: payloadOf stmt

/-- The whole frame: the body and its CRC, high byte first. -/
def frameOf (id : Ident) (seq : BitVec 8) (stmt : Statement) : List Byte :=
  frameBody id seq stmt ++ hiLo (crc (frameBody id seq stmt))

/-! ### From bytes to a statement (R77, R97) -/

/-- The identity in a header byte. -/
def headerIdent (h : Byte) : Ident := (h.extractLsb' 5 3).toFin

/-- The kind in a header byte. -/
def headerKind (h : Byte) : Nat := (h.extractLsb' 2 3).toNat

/-- The length that a header's kind fixes; none for an unknown kind: 4 to 7, or bits 1 to 0 not both 0 (R77, R94). -/
def headerLength (h : Byte) : Option Nat :=
  if h.extractLsb' 0 2 ≠ 0#2 then none
  else
    match headerKind h with
    | 0 => some 17
    | 1 => some 6
    | 2 => some 8
    | 3 => some 4
    | _ => none

/-- The STANDING fields of a frame's bytes; bits 7 to 5 of the flags are ignored (R97). -/
def standingFieldsOf (bytes : List Byte) : StandingFields where
  role := (byteAt bytes 2).extractLsb' 0 2
  drive := (byteAt bytes 2).getLsbD 2
  guard := (byteAt bytes 2).getLsbD 3
  speedFault := (byteAt bytes 2).getLsbD 4
  profile := halfAt bytes 3
  capacity := halfAt bytes 5
  take := halfAt bytes 7
  limit := halfAt bytes 9
  wheel := halfAt bytes 11
  weight := byteAt bytes 13
  n := (byteAt bytes 14).extractLsb' 4 4
  k := (byteAt bytes 14).extractLsb' 0 4

/-- The statement of a frame's bytes, by the kind of its header. -/
def statementOf (bytes : List Byte) : Statement :=
  match headerKind (byteAt bytes 0) with
  | 0 => .standing (standingFieldsOf bytes)
  | 1 => .demand (halfAt bytes 2)
  | 2 => .alert { code := byteAt bytes 2, subject := byteAt bytes 3, detail := halfAt bytes 4 }
  | _ => .leave

/-- A complete frame checks when the CRC over all but its last two bytes equals those two, high byte first (R78, R95). -/
def frameChecks (bytes : List Byte) : Bool :=
  crc (bytes.take (bytes.length - 2)) == halfAt bytes (bytes.length - 2)

/-! ### Alerts (R77) -/

/-- The alert codes. -/
inductive AlertKind where
  | shortfall
  | sinkDegraded
  | profileMismatch
  | pedalDisagree
  | speedSensor
  | demandLost
  deriving DecidableEq, Repr

/-- The code of an alert. -/
def alertCode : AlertKind → BitVec 8
  | .shortfall => 1
  | .sinkDegraded => 2
  | .profileMismatch => 3
  | .pedalDisagree => 4
  | .speedSensor => 5
  | .demandLost => 6

/-- An alert of a kind with its subject and detail. -/
def mkAlert (kind : AlertKind) (subject : Ident) (detail : Nat) : Alert :=
  { code := alertCode kind, subject := BitVec.ofNat 8 subject.val, detail := BitVec.ofNat 16 detail }

end Sys2Proof.Machine
end

