-- ==== Sys2Proof/Machine/ConfigMemory.lean ====
section
/-! DEFINITION. The configuration memory (spec/09): the two blocks read into fields (R178), the checks (R180), and the values
that count where a stored value lies outside the range its use allows (R181 and the rules it names). -/

namespace Sys2Proof.Machine

/-! ### Layout (R178) -/

/-- A curve of six points stored from a position on, each x_i then f_i. -/
def curveAt (bytes : List Byte) (i : Nat) : Curve :=
  let p (k : Nat) : CurvePoint := { x := nat2At bytes (i + 4 * k), f := nat2At bytes (i + 4 * k + 2) }
  { p0 := p 0, p1 := p 1, p2 := p 2, p3 := p 3, p4 := p 4, p5 := p 5 }

/-- The shared block's fields; `b` holds bytes 0 to 47 of the memory. -/
def sharedOf (b : List Byte) : SharedCfg where
  lineRate := natAt b 0
  staleAge := natAt b 1
  absentAge := natAt b 2
  demandAge := natAt b 3
  demandHold := natAt b 4
  listenPeriods := natAt b 5
  slipRatio := natAt b 6
  shortPeriods := natAt b 7
  vrefHold := natAt b 8
  warnHold := natAt b 9
  parkDelay := natAt b 10
  demandRamp := nat2At b 12
  contFallback := nat2At b 14
  slipMinSpeed := nat2At b 16
  shortMin := nat2At b 18

/-- The local block's fields; `b` holds bytes 64 to 191 of the memory, so memory byte m is at position m - 64. Bits 7 to 4
of the flags byte are ignored (R182). -/
def localOf (b : List Byte) : LocalCfg where
  roleCode := ((byteAt b 0).extractLsb' 0 2).toNat
  driveFlag := (byteAt b 0).getLsbD 2
  demandSource := (byteAt b 0).getLsbD 3
  n := natAt b 1
  weight := natAt b 2
  stepHold := natAt b 3
  kmax := nat2At b 4
  lMax := nat2At b 6
  lFloor := nat2At b 8
  lRise := nat2At b 10
  riseWait := natAt b 12
  sensorHold := natAt b 13
  slewUp := nat2At b 14
  supTol := nat2At b 16
  supPeriods := natAt b 18
  stalkHold := natAt b 19
  tempCurve := curveAt b 20
  speedCurve := curveAt b 44
  guardOn := nat2At b 68
  guardOff := nat2At b 70
  guardFrac := nat2At b 72
  heatGain := nat2At b 74
  coolGain := nat2At b 76
  ambient := nat2At b 78
  powerOnTemp := nat2At b 80
  coldTime := nat2At b 82
  fbZero := nat2At b 84
  fbGain := nat2At b 86
  tempOffset := (halfAt b 88).toInt
  tempScale := nat2At b 90
  wheelScale := nat2At b 92
  pedalDead := nat2At b 94
  pedalGain := nat2At b 96
  pedalDiff := nat2At b 98
  stalkLevel1 := nat2At b 100
  stalkLevel2 := nat2At b 102
  stalkLevel3 := nat2At b 104
  stalkLevel4 := nat2At b 106
  kp := natAt b 108
  ki := natAt b 109

/-! ### The two transactions and their CRC (R176, R177) -/

/-- What a transaction sends on MOSI: the read instruction and the start address (R176). -/
def transactionMosi : LoadPhase → List Byte
  | .idle => []
  | .sharedBlock => [0x03, 0]
  | .localBlock => [0x03, 64]

/-- How many bytes a transaction clocks in (R176). -/
def transactionLength : LoadPhase → Nat
  | .idle => 0
  | .sharedBlock => 48
  | .localBlock => 128

/-- The bytes a transaction has clocked in: as many as it clocks (log 14). -/
def clockedIn (phase : LoadPhase) (miso : List Byte) : List Byte :=
  (List.range (transactionLength phase)).map (byteAt miso)

/-- The CRC computed over a block without its last two bytes (R177). -/
def blockCrc (bytes : List Byte) : Half := crc (bytes.take (bytes.length - 2))

/-- The block's CRC matches its last two bytes, high byte first (R177). -/
def blockMatches (bytes : List Byte) : Bool := blockCrc bytes == halfAt bytes (bytes.length - 2)

/-! ### Checks (R180) -/

/-- The points of a curve in order. -/
def curvePoints (c : Curve) : List CurvePoint := [c.p0, c.p1, c.p2, c.p3, c.p4, c.p5]

/-- A relation holds between each point and the next. -/
def eachNext (r : CurvePoint → CurvePoint → Bool) : List CurvePoint → Bool
  | p :: q :: rest => r p q && eachNext r (q :: rest)
  | _ => true

/-- The x values strictly increase and every f is at most 256. -/
def curveOk (c : Curve) : Bool :=
  eachNext (fun p q => p.x < q.x) (curvePoints c) && (curvePoints c).all fun p => p.f ≤ 256

/-- The f values do not increase. -/
def curveFalls (c : Curve) : Bool := eachNext (fun p q => q.f ≤ p.f) (curvePoints c)

/-- The checks on the shared fields. -/
def sharedOk (c : SharedCfg) : Bool :=
  c.lineRate ≤ 2 && (2 ≤ c.staleAge && c.staleAge ≤ 10) && (10 ≤ c.absentAge && c.absentAge ≤ 200)
    && c.staleAge < c.absentAge && c.staleAge < c.listenPeriods

/-- Bytes 11 and 20 to 45 of the shared block are all 0. -/
def unusedOk (b : List Byte) : Bool :=
  byteAt b 11 == 0 && (List.range 26).all fun i => byteAt b (20 + i) == 0

/-- The checks on the local fields; W is checked for AXLE and n for EXHAUST alone. -/
def localOk (c : LocalCfg) : Bool :=
  c.roleCode ≤ 2
    && (c.roleCode != 2 || (1 ≤ c.weight && c.weight ≤ 100))
    && (c.roleCode != 0 || (1 ≤ c.n && c.n ≤ 7))
    && curveOk c.tempCurve && curveOk c.speedCurve && curveFalls c.tempCurve
    && c.guardOff < c.guardOn && c.kmax ≤ 2047 && c.lFloor ≤ c.lMax && c.lMax ≤ 2047
    && c.ambient ≤ c.powerOnTemp && 1 ≤ c.fbGain && 1 ≤ c.coldTime

/-- Every check of R180 over two accepted blocks. -/
def checksPass (sharedBytes localBytes : List Byte) : Bool :=
  sharedOk (sharedOf sharedBytes) && unusedOk sharedBytes && localOk (localOf localBytes)

/-! ### The values that count (R181; R107, R146, R149, R166) -/

/-- The role in force; a configuration with role code 3 is never put in force (R180). -/
def cfgRole (c : Cfg) : Role := (roleOfCode c.loc.roleCode).getD .axle

/-- The drive flag acts for AXLE alone (R182). -/
def cfgDrive (c : Cfg) : Bool := cfgRole c == .axle && c.loc.driveFlag

def demandRampUsed (c : Cfg) : Nat := min c.shared.demandRamp 2047
def contFallbackUsed (c : Cfg) : Nat := min c.shared.contFallback 2047
def shortMinUsed (c : Cfg) : Nat := min c.shared.shortMin 2047
def slipMinSpeedUsed (c : Cfg) : Nat := min c.shared.slipMinSpeed 511
def lRiseUsed (c : Cfg) : Nat := min c.loc.lRise 2047
def slewUpUsed (c : Cfg) : Nat := min c.loc.slewUp 2047
def supTolUsed (c : Cfg) : Nat := min c.loc.supTol 2047
def fbZeroUsed (c : Cfg) : Nat := min c.loc.fbZero 1023
def pedalDeadUsed (c : Cfg) : Nat := min c.loc.pedalDead 1023
def pedalDiffUsed (c : Cfg) : Nat := min c.loc.pedalDiff 1023

/-- STALK_LEVEL of an effective stalk code, and 0 for OFF and HOLD (R38, R181). -/
def stalkDemandOf (c : Cfg) : Nat → Nat
  | 1 => min c.loc.stalkLevel1 2047
  | 2 => min c.loc.stalkLevel2 2047
  | 3 => min c.loc.stalkLevel3 2047
  | 4 => min c.loc.stalkLevel4 2047
  | _ => 0

/-- A stored GUARD_FRAC above 256 counts as 256 (R107). -/
def guardFracUsed (c : Cfg) : Nat := min c.loc.guardFrac 256

/-- A stored STEP_HOLD of 0 acts as 1, and one above 50 as 50 (R146). -/
def stepHoldUsed (c : Cfg) : Nat := max 1 (min c.loc.stepHold 50)

/-- A stored SUP_PERIODS of 0 acts as 1 (R149). -/
def supPeriodsUsed (c : Cfg) : Nat := max 1 c.loc.supPeriods

/-- A PARK_DELAY of 0 acts as 1 (R166). -/
def parkDelayUsed (c : Cfg) : Nat := max 1 c.shared.parkDelay

/-- The line rate in bit/s (R178); the rate enters no rule but through line times, which are operands (log 2). -/
def lineRateOf (c : Cfg) : Nat :=
  match c.shared.lineRate with
  | 0 => 250000
  | 1 => 125000
  | _ => 62500

end Sys2Proof.Machine
end

