-- ==== Sys2Proof/Machine/Flags.lean ====
section
/-! DEFINITION. Every condition and flag the rules compute from the state: the standing (R99), who is a demand source, the states
in which blocks work, the warn conditions (R172), the FAULT output (R174), the drive code (R145), and the output pins. -/

namespace Sys2Proof.Machine

/-! ### Standing (R99) -/

/-- SPEAKING below 96, RESTRAINED from 96 to 191, SILENT from 192. -/
def standingOf (trouble : Nat) : Standing :=
  if trouble < 96 then .speaking else if trouble < 192 then .restrained else .silent

/-- The standing as LP holds it. -/
def State.standing (s : State) : Standing := standingOf s.lp.trouble

/-! ### The station (R156, R182) -/

/-- LISTEN, ACTIVE, LOCAL and LEAVING: the states in which the part hears the line and the sink side works. -/
def operating : StationState → Bool
  | .listen | .active | .localOnly | .leaving => true
  | .config | .parked | .fault => false

/-- LISTEN, ACTIVE and LOCAL: the states in which DU evaluates (R34). -/
def demandRuns : StationState → Bool
  | .listen | .active | .localOnly => true
  | .config | .leaving | .parked | .fault => false

/-- LISTEN and ACTIVE: the states in which STX takes an offered alert (R84). -/
def alertsTaken : StationState → Bool
  | .listen | .active => true
  | .config | .localOnly | .leaving | .parked | .fault => false

/-- The role in force. -/
def State.role (s : State) : Role := cfgRole s.cfg

/-- The station is a demand source (R182). -/
def State.isSource (s : State) : Bool := s.cfg.loc.demandSource

/-! ### The line (R90) -/

/-- Own DE is asserted: a frame is being sent. -/
def State.de (s : State) : Bool := s.lp.tx.isSome

/-- The character on TXD, if one is being sent; the header alone has its mark bit set. -/
def txChar (f : TxFrame) : Character := charOf (f.idx == 0) (byteAt f.bytes f.idx)

/-! ### Availability and indications -/

/-- Vref is available while AVAILABLE or HELD (R125). -/
def vrefAvailable (a : Am) : Bool :=
  match a.vrefState with
  | .available | .held => true
  | .unavailable => false

/-- The demand-lost condition (R49). -/
def demandLost (d : Du) : Bool :=
  match d.phase with
  | .holding | .ramping => true
  | .unsourced | .sourced => false

/-- The own pedal-disagreement condition (R37). -/
def pedalDisagreement (d : Du) : Bool := d.pedal != .clear

/-- The guard flag of a FRESH record (R54). -/
def freshGuard : Option PeerRecord → Bool
  | some r => r.state == .fresh && r.guard
  | none => false

/-- Some FRESH record has its guard flag set (R172). -/
def peerGuard (t : PeerTable) : Bool := idents.any fun i => freshGuard (slotGet t i)

/-- Any of the six warn conditions (R172). -/
def warnCondition (s : State) : Bool :=
  s.pe.shortfall || s.cu.guarded || peerGuard s.pt || demandLost s.du || pedalDisagreement s.du || 0 < s.stc.warnHold

/-- The WARN output (R172). -/
def warnOutput (s : State) : Bool :=
  match s.stc.state with
  | .config | .parked => false
  | .fault => s.stc.cause == .dupId
  | .listen | .active | .localOnly | .leaving => warnCondition s

/-- The FAULT output (R174). -/
def faultOutput (s : State) : Bool :=
  match s.stc.state with
  | .config | .localOnly | .fault => true
  | .listen | .active | .leaving => s.sc.degraded
  | .parked => false

/-! ### The outputs to the sink (R145, R148) -/

/-- The drive code of a command: 0 releases; the one division that rounds up. -/
def driveCode (c : Cfg) (command : Nat) : Nat :=
  if command = 0 then 0 else min 1023 (fbZeroUsed c + divUp (command * 256) c.loc.fbGain)

/-- DRIVE: the drive code for RETARDER and AXLE, 0 for EXHAUST. -/
def driveOutput (s : State) : Nat := if s.role = .exhaust then 0 else driveCode s.cfg s.sc.c

/-- EXS0-EXS2: the step in force for EXHAUST, 0 for the others. -/
def exsOutput (s : State) : Nat := if s.role = .exhaust then s.sc.kNow else 0

/-- The levels of all output pins for the state the blocks are in. CSn is low, and MOSI has carried the instruction and the
address, while a transaction is in progress (R176). -/
def outputsOf (s : State) : OutPins where
  drive := BitVec.ofNat 10 (driveOutput s)
  exs := BitVec.ofNat 3 (exsOutput s)
  de := s.de
  txd := s.lp.tx.map txChar
  csn := s.loader.phase == .idle
  mosi := transactionMosi s.loader.phase
  warn := warnOutput s
  fault := faultOutput s

/-- The output pins follow the blocks at the event itself (R154, R172, R174). Every command ends with this. -/
def State.drivePins (s : State) : State := s.setOut (outputsOf s)

/-- A command answers with the next state, its pins driven. -/
def answer (s : State) : Host.Outcome State Fault Refusal := .next s.drivePins

end Sys2Proof.Machine
end

