-- ==== Sys2Proof/Machine/Capacity.lean ====
section
/-! DEFINITION. The capacity unit and the thermal estimator (spec/05): curves, the fractions, the guard band, the advertised
capacity, and the steps of the estimate. -/

namespace Sys2Proof.Machine

/-! ### Curves (R103) -/

/-- The fraction inside the segment from `p` to `q`: f of `p` moved toward f of `q` by the amount rounded down. -/
def segment (p q : CurvePoint) (x : Nat) : Nat :=
  if p.f < q.f then p.f + (q.f - p.f) * (x - p.x) / (q.x - p.x)
  else p.f - (p.f - q.f) * (x - p.x) / (q.x - p.x)

/-- The fraction at an index at or past the first of the points. -/
def readFrom (p : CurvePoint) : List CurvePoint → Nat → Nat
  | [], _ => p.f
  | q :: rest, x => if x < q.x then segment p q x else readFrom q rest x

/-- The fraction of a curve at an index. -/
def curveRead (c : Curve) (x : Nat) : Nat :=
  if x ≤ c.p0.x then c.p0.f else readFrom c.p0 [c.p1, c.p2, c.p3, c.p4, c.p5] x

/-! ### Temperature (R111, R113) -/

/-- A TEMP or FB reading of a working sensor: 10 to 1013 (R137, R140). -/
def readingValid (r : Nat) : Bool := 10 ≤ r && r ≤ 1013

/-- The temperature code of a TEMP reading. -/
def tempCode (c : Cfg) (r : Nat) : Nat :=
  clampNat (c.loc.tempOffset + ((r * c.loc.tempScale / 16 : Nat) : Int)) 65535

/-- Estimate units in one temperature code step. -/
def codeStep : Nat := 2 ^ 20

/-- The ambient reference. -/
def thetaAmb (c : Cfg) : Nat := codeStep * c.loc.ambient

/-- The largest estimate, code 65535 and its fraction. -/
def thetaMax : Nat := 65535 * codeStep + (codeStep - 1)

/-- The code of the estimate. -/
def thetaCode (theta : Nat) : Nat := theta / codeStep

/-! ### The guard band (R109) -/

/-- The guard state after a new temperature code in force is compared. -/
def guardNext (c : Cfg) (guarded : Bool) (code : Nat) : Bool :=
  if guarded then c.loc.guardOff ≤ code else c.loc.guardOn ≤ code

/-- A new temperature code in force: kept, and compared with the guard thresholds. -/
def cuTakeCode (c : Cfg) (code : Nat) (cu : Cu) : Cu :=
  { cu with code := some code, guarded := guardNext c cu.guarded code }

/-! ### Capacity (R104, R106, R107) -/

/-- The speed index of a role: Vref while available and 0 while not for RETARDER, engine speed for EXHAUST; an AXLE has none. -/
def speedIndexOf (c : Cfg) (am : Am) (cu : Cu) : Nat :=
  match cfgRole c with
  | .retarder => if vrefAvailable am then am.vref else 0
  | .exhaust => cu.engSpeed
  | .axle => 0

/-- The speed fraction: read from the speed curve, and 256 for an AXLE. -/
def speedFraction (c : Cfg) (index : Nat) : Nat :=
  if cfgRole c = .axle then 256 else curveRead c.loc.speedCurve index

/-- The temperature fraction: read at the code in force; with no code it is not read and the last one stays. -/
def tempFraction (c : Cfg) (cu : Cu) : Nat :=
  match cu.code with
  | some code => curveRead c.loc.tempCurve code
  | none => cu.fT

/-- The raw capacity: the temperature fraction first, rounded, then the speed fraction (R106). -/
def rawCapacity (c : Cfg) (fT fS : Nat) : Nat := c.loc.kmax * fT / 256 * fS / 256

/-- The advertised capacity: the first line of R107 that applies. -/
def advertised (c : Cfg) (sc : Sc) (code : Option Nat) (guarded : Bool) (raw : Nat) : Nat :=
  if sc.degraded then 0
  else if sc.tempHold then 0
  else if code = none then 0
  else if guarded then raw * guardFracUsed c / 256
  else raw

/-- CU forms its values anew from its inputs, with the guard state as it stands (R108). -/
def cuForm (c : Cfg) (am : Am) (sc : Sc) (cu : Cu) : Cu :=
  let index := speedIndexOf c am cu
  let fT := tempFraction c cu
  let fS := speedFraction c index
  let raw := rawCapacity c fT fS
  { cu with
    speedIndex := index, fT := fT, fS := fS, raw := raw, capacity := advertised c sc cu.code cu.guarded raw }

/-- CU's part of an event that changes one of its inputs (R108). -/
def State.formCapacity (s : State) : State := s.setCu (cuForm s.cfg s.am s.sc s.cu)

/-- The code of the estimate comes into force at CU, and the capacity follows (R108, R109). -/
def State.takeEstimate (s : State) : State :=
  (s.setCu (cuTakeCode s.cfg (thetaCode s.te.theta) s.cu)).formCapacity

/-! ### The estimate (R115 to R118, R120) -/

/-- The speed used in the heat step (R118). -/
def heatSpeed (am : Am) : Nat :=
  if am.faultFlag then (if vrefAvailable am then am.vref else 0) else am.w

/-- The heat step (R115). -/
def heatStep (c : Cfg) (take speed theta : Nat) : Nat := theta + take * speed * c.loc.heatGain

/-- The cooling step (R116). -/
def coolStep (c : Cfg) (theta : Nat) : Nat := theta - (theta - thetaAmb c) * c.loc.coolGain / 2 ^ 24

/-- Heat, cooling, saturation, in this order (R114, R117). -/
def estimateNext (c : Cfg) (take speed theta : Nat) : Nat :=
  min thetaMax (coolStep c (heatStep c take speed theta))

/-- Park cooling: a straight line down to ambient at COLD_TIME (R120). -/
def parkCooled (c : Cfg) (parked theta : Nat) : Nat :=
  if c.loc.coldTime ≤ parked then thetaAmb c
  else thetaAmb c + (theta - thetaAmb c) * (c.loc.coldTime - parked) / c.loc.coldTime

/-! ### Engine speed (R105) -/

/-- The engine speed of a window's pulse count. -/
def engineSpeedOf (pulses : Nat) : Nat := min 255 (pulses * 25 / 8)

/-- The ENG window closes and the next starts. The first sink expiry after CONFIG or wake only starts a window (R105). -/
def cuCloseWindow (cu : Cu) : Cu :=
  { cu with engSpeed := if cu.engOpen then engineSpeedOf cu.engPulses else cu.engSpeed, engPulses := 0, engOpen := true }

end Sys2Proof.Machine
end

