-- ==== Sys2Proof/Machine/Ops.lean ====
section
/-! DEFINITION. The operations that several commands share: transmit slots and the alert queue (R81 to R88), the entries to the
station states (spec/08 with the entry tables of every chapter: R33, R50, R74, R87, R101, R121, R135, R154, R155, R175, R187),
and the trouble count with what a change of standing does (R98 to R100, R162). -/

namespace Sys2Proof.Machine

/-! ### Slots (R81, R82) -/

/-- A statement as it enters a slot: unnumbered, 0 failed attempts. -/
def newlyHeld (stmt : Statement) : Held := { stmt := stmt, seq := none, failed := 0 }

def isPending : Slot → Bool
  | .pending _ => true
  | .empty | .sending _ _ _ => false

/-- Some slot is PENDING. -/
def anyPending (x : Stx) : Bool := isPending x.urgent || isPending x.demand || isPending x.standing

/-- A formed statement enters its slot (R82). -/
def slotEnter (stmt : Statement) : Slot → Slot
  | .empty => .pending (newlyHeld stmt)
  | .pending _ => .pending (newlyHeld stmt)
  | .sending h _ noRetry => .sending h (some stmt) noRetry

/-- The slot of a class. -/
def slotOf (x : Stx) : SlotClass → Slot
  | .urgent => x.urgent
  | .demand => x.demand
  | .standing => x.standing

/-- STX with the slot of a class replaced. -/
def withSlot (x : Stx) (cls : SlotClass) (slot : Slot) : Stx :=
  match cls with
  | .urgent => { x with urgent := slot }
  | .demand => { x with demand := slot }
  | .standing => { x with standing := slot }

/-- STX's new state. When the line is FREE, no slot was PENDING and no frame is being sent, and a slot becomes PENDING, the
access origin is that moment (R88). -/
def State.putStx (s : State) (x : Stx) : State :=
  if s.lp.line = .free ∧ s.lp.tx = none ∧ anyPending s.stx = false ∧ anyPending x = true then
    (s.setStx x).setLp { s.lp with origin := .slotPending }
  else s.setStx x

/-! ### The alert queue (R84, R86) -/

/-- The same alert for the queue: equal code and subject. -/
def sameAlert (a b : Alert) : Bool := a.code == b.code && a.subject == b.subject

/-- An alert taken into the queue: updated in place, appended below 4 entries, or discarded (R84). -/
def enqueue (a : Alert) (q : List Alert) : List Alert :=
  if q.any (sameAlert a) then q.map fun b => if sameAlert a b then { b with detail := a.detail } else b
  else if q.length < 4 then q ++ [a]
  else q

/-- In ACTIVE, with the urgent slot EMPTY, the head of the queue moves into it (R86). -/
def State.fillUrgent (s : State) : State :=
  match s.stc.state, s.stx.urgent, s.stx.queue with
  | .active, .empty, a :: rest => s.putStx { s.stx with urgent := .pending (newlyHeld (.alert a)), queue := rest }
  | _, _, _ => s

/-- STX takes an offered alert in LISTEN and ACTIVE and discards it elsewhere (R84). -/
def State.offerAlert (a : Alert) (s : State) : State :=
  if alertsTaken s.stc.state then (s.setStx { s.stx with queue := enqueue a s.stx.queue }).fillUrgent else s

/-- An alert offered or none. -/
def State.offer (a : Option Alert) (s : State) : State :=
  match a with
  | some a => s.offerAlert a
  | none => s

/-! ### What the blocks take at state entries -/

/-- DU on entry to LEAVING, PARKED and FAULT (R50): as at power-on, but the hold target keeps its value. -/
def duCleared (du : Du) : Du := { Du.powerOn with target := du.target }

/-- DU on entry to LOCAL (R50). -/
def duLocal (du : Du) : Du := { du with d := 0, phase := .unsourced, lossCount := 0 }

/-- SC with the command, the step and the rise hold count at 0 and a fresh supervision window (R154). -/
def scReleased (sc : Sc) : Sc := { sc with c := 0, kNow := 0, riseHold := 0, supCount := 0 }

/-- The target of the command in LOCAL (R144). -/
def fallbackTarget (s : State) : Nat :=
  if s.role = .axle ∧ s.isSource then
    min (s.du.own * s.cfg.loc.weight / 100) (min s.cu.capacity s.am.limit)
  else 0

/-- SC on entry to LOCAL (R155): an AXLE demand source keeps no more than the fallback target; every other command is 0. -/
def scLocal (s : State) : Sc :=
  if s.role = .axle ∧ s.isSource then { s.sc with c := min s.sc.c (fallbackTarget s), supCount := 0 }
  else scReleased s.sc

/-- A slot whose PENDING statement and follow-up are dropped, and whose frame under way is not retried (R87, R101). -/
def slotCleared : Slot → Slot
  | .empty => .empty
  | .pending _ => .empty
  | .sending h _ _ => .sending h none true

/-- STX on entry to LOCAL (R85, R101). -/
def stxLocal (x : Stx) : Stx :=
  { x with urgent := slotCleared x.urgent, demand := slotCleared x.demand, standing := slotCleared x.standing, queue := [] }

/-- STX on entry to LEAVING (R85, R87): the LEAVE takes the urgent slot or follows the ALERT being sent. -/
def stxLeaving (x : Stx) : Stx :=
  { x with
    urgent := slotEnter .leave x.urgent, demand := slotCleared x.demand, standing := slotCleared x.standing, queue := [] }

/-- STX on entry to PARKED and FAULT: slots EMPTY, queue empty, sequence counter kept (R85, R101). -/
def stxOff (x : Stx) : Stx := { Stx.powerOn with seq := x.seq }

/-- LP on entry to PARKED and FAULT: DE released, any frame abandoned, receiver disarmed (R101). -/
def lpOff (lp : Lp) : Lp := { lp with tx := none, tail := .none, rx := .disarmed }

/-- LP on entry to LISTEN from CONFIG or PARKED: line BUSY, the receiver armed at the first line-free point (R76, R94). -/
def lpStart (lp : Lp) : Lp := { lp with line := .busy, rx := .disarmed }

/-- AM's adhesion limit at the end of CONFIG and at wake: L_MAX for an AXLE; another role keeps no limit (R135, log 22). -/
def startLimit (c : Cfg) (old : Nat) : Nat := if cfgRole c = .axle then c.loc.lMax else old

/-! ### Entries to the station states -/

/-- CONFIG, at power-on and at RESETn (R157): every block takes its power-on values. The levels at the input pins and the
commands that wait are not the part's to change. -/
def State.enterConfig (s : State) : State := { State.reset with inp := s.inp, pending := s.pending }

/-- What every entry to LISTEN does (R33, R154, R159, R187). -/
def State.enterListen (s : State) : State :=
  ((s.setPe Pe.idle).setSc (scReleased s.sc)).setStc
    { s.stc with state := .listen, listenCount := 0, ignOffCount := 0 }

/-- ACTIVE (R154, R161): a fresh supervision window, and the oldest alert moves to the urgent slot. -/
def State.enterActive (s : State) : State :=
  ((s.setSc { s.sc with supCount := 0 }).setStc { s.stc with state := .active }).fillUrgent

/-- LOCAL (R33, R50, R101, R155, R163, R187). -/
def State.enterLocal (s : State) : State :=
  ((((s.setPe Pe.idle).setDu (duLocal s.du)).setStx (stxLocal s.stx)).setSc (scLocal s)).setStc
    { s.stc with state := .localOnly }

/-- LEAVING (R33, R50, R87, R154, R168, R187). -/
def State.enterLeaving (s : State) : State :=
  ((((s.setPe Pe.idle).setDu (duCleared s.du)).putStx (stxLeaving s.stx)).setSc (scReleased s.sc)).setStc
    { s.stc with state := .leaving, ignOffCount := 0, leaveCount := 0 }

/-- FAULT with a cause (R33, R50, R74, R101, R154, R165, R187). -/
def State.enterFault (cause : FaultCause) (s : State) : State :=
  ((((((s.setPt PeerTable.empty).setPe Pe.idle).setDu (duCleared s.du)).setLp (lpOff s.lp)).setStx (stxOff s.stx)).setSc
    (scReleased s.sc)).setStc { s.stc with state := .fault, cause := cause, ignOffCount := 0, warnHold := 0 }

/-- The estimate and CU as the part starts to work: an AXLE's code from its estimate, another role without a code (R121). -/
def State.startCapacity (theta : Nat) (s : State) : State :=
  if s.role = .axle then
    ((s.setTe { s.te with theta := theta }).setCu { s.cu with engSpeed := 0, engPulses := 0, engOpen := false }).takeEstimate
  else (s.setCu { s.cu with code := none, engSpeed := 0, engPulses := 0, engOpen := false }).formCapacity

/-- The wake, as one event (R170): the blocks take their wake values, then the station enters LISTEN. -/
def State.wake (s : State) : State :=
  let s1 := (s.setSc Sc.powerOn).setAm { Am.powerOn with limit := startLimit s.cfg s.am.limit, woken := true }
  let s2 := s1.startCapacity (parkCooled s.cfg s.stc.parkTimer s.te.theta)
  (s2.setLp (lpStart s2.lp)).enterListen

/-- What entry to PARKED sets (R33, R50, R74, R98, R101, R154, R169, R175, R187). -/
def State.park (s : State) : State :=
  ((((((s.setPt PeerTable.empty).setPe Pe.idle).setDu (duCleared s.du)).setLp
    { lpOff s.lp with trouble := 0, recovery := 0 }).setStx (stxOff s.stx)).setSc (scReleased s.sc)).setStc
    { s.stc with state := .parked, ignOffCount := 0, parkTimer := 0, warnHold := 0 }

/-- PARKED: IGN is sampled at the entry, and an ignition found on wakes the station in the same event (R169). -/
def State.enterParked (s : State) : State := if s.inp.ign then s.park.wake else s.park

/-- The loader's valid result (R158): the configuration in force, the estimate, guard, C and L set, and LISTEN entered. -/
def State.putInForce (c : Cfg) (s : State) : State :=
  let s1 := (s.setCfg c).setAm { s.am with limit := startLimit c s.am.limit }
  let s2 := s1.startCapacity (codeStep * c.loc.powerOnTemp)
  (s2.setLp (lpStart s2.lp)).enterListen

/-! ### The trouble count (R98 to R100) -/

/-- A rise of the trouble count, to at most 255; frozen while SILENT. On becoming SILENT the recovery counter is 0. -/
def lpRaise (n : Nat) (lp : Lp) : Lp :=
  if standingOf lp.trouble = .silent then lp
  else
    let t := min 255 (lp.trouble + n)
    { lp with trouble := t, recovery := if standingOf t = .silent then 0 else lp.recovery }

/-- A fall of the trouble count by 1, down to 0; frozen while SILENT. -/
def lpLower (lp : Lp) : Lp :=
  if standingOf lp.trouble = .silent then lp else { lp with trouble := lp.trouble - 1 }

/-- A counted receive error: +1, or while SILENT the recovery counter set to 0 (R95, R100). -/
def lpReceiveError (lp : Lp) : Lp :=
  if standingOf lp.trouble = .silent then { lp with recovery := 0 } else lpRaise 1 lp

/-- A valid frame other than the echo: -1, or while SILENT one more toward 128, which makes the station speak again (R100);
access then resumes from the next line-free point (R93), so the origin set before counts no more. -/
def lpValidFrame (lp : Lp) : Lp :=
  if standingOf lp.trouble = .silent then
    if 128 ≤ lp.recovery + 1 then { lp with trouble := 0, recovery := 0, origin := .unset }
    else { lp with recovery := lp.recovery + 1 }
  else lpLower lp

/-- STC takes a change of standing (R162): SILENT in ACTIVE gives LOCAL, leaving SILENT in LOCAL gives LISTEN. -/
def State.takeStanding (before : Standing) (s : State) : State :=
  match s.stc.state with
  | .active => if before ≠ .silent ∧ s.standing = .silent then s.enterLocal else s
  | .localOnly => if before = .silent ∧ s.standing ≠ .silent then s.enterListen else s
  | .config | .listen | .leaving | .parked | .fault => s

/-- LP's new counts, with what STC does on a change of standing. -/
def State.countLp (s : State) (lp : Lp) : State := (s.setLp lp).takeStanding s.standing

end Sys2Proof.Machine
end

