-- ==== Sys2Proof/Machine/Adhesion.lean ====
section
/-! DEFINITION. The adhesion monitor (spec/06): wheel speed, the reference speed, the speed-sensor fault, the adhesion limit; and
the meaning of AM_EVALUATION_EXPIRY. -/

namespace Sys2Proof.Machine

/-! ### Wheel speed (R123) -/

/-- The wheel speed of a window's pulse count. -/
def wheelSpeedOf (c : Cfg) (pulses : Nat) : Nat := min 511 (pulses * c.loc.wheelScale / 256)

/-- The WHEEL window closes and the next starts. The first sink expiry after CONFIG or wake only starts a window (R123). -/
def amCloseWindow (c : Cfg) (am : Am) : Am :=
  if am.windowOpen then { am with w := wheelSpeedOf c am.pulses, pulses := 0, woken := false }
  else { am with pulses := 0, windowOpen := true }

/-! ### Reference speed (R124, R125) -/

/-- The wheel speed a slot contributes: FRESH, AXLE, speed-fault flag clear; above 511 it counts as 511. -/
def peerWheel (slot : Option PeerRecord) : Option Nat :=
  match slot with
  | some r =>
    if r.state = .fresh ∧ r.role = .axle ∧ r.speedFault = false then
      some (min ((r.axle.map (·.wheel.toNat)).getD 0) 511)
    else none
  | none => none

/-- The own wheel speed as a member: AXLE with its speed-fault flag clear (R124); of a woken station, only from its first closed
window on (R135; log 6). -/
def ownWheel (c : Cfg) (am : Am) : Option Nat :=
  if cfgRole c = .axle ∧ am.faultFlag = false ∧ am.woken = false then some am.w else none

/-- The wheel-speed members. -/
def wheelMembers (c : Cfg) (t : PeerTable) (am : Am) : List Nat :=
  (ownWheel c am).toList ++ idents.filterMap fun i => peerWheel (slotGet t i)

/-- The reference-speed stage. -/
def referenceStage (c : Cfg) (t : PeerTable) (am : Am) : Am :=
  match wheelMembers c t am with
  | x :: rest => { am with vref := (x :: rest).foldl max 0, vrefState := .available, vrefHold := 0 }
  | [] =>
    match am.vrefState with
    | .available => { am with vrefState := .held, vrefHold := 1 }
    | .held =>
      if am.vrefHold < c.shared.vrefHold then { am with vrefHold := am.vrefHold + 1 }
      else { am with vrefState := .unavailable, vref := 0 }
    | .unavailable => am

/-! ### The speed-sensor fault (R127, R128) -/

/-- Vref is available and at least SLIP_MIN_SPEED. -/
def fastEnough (c : Cfg) (am : Am) : Bool := vrefAvailable am && slipMinSpeedUsed c ≤ am.vref

/-- The speed-fault condition. -/
def speedFaultCondition (c : Cfg) (take : Nat) (am : Am) : Bool := am.w == 0 && take == 0 && fastEnough c am

/-- How many consecutive evaluations declare the fault. -/
def speedFaultPeriods : Nat := 50

/-- The speed-fault stage of an AXLE station. -/
def speedFaultStage (c : Cfg) (take : Nat) (am : Am) : Am :=
  if am.faultFlag then
    if 0 < am.w then { am with faultFlag := false, rise := c.loc.riseWait, limit := c.loc.lFloor }
    else { am with limit := c.loc.lFloor }
  else if speedFaultCondition c take am then
    if speedFaultPeriods ≤ am.faultCount + 1 then { am with faultFlag := true, limit := c.loc.lFloor, faultCount := 0 }
    else { am with faultCount := am.faultCount + 1 }
  else { am with faultCount := 0 }

/-- The SPEED_SENSOR alert: at the evaluation that sets the flag (R127). -/
def speedAlert (own : Ident) (before after : Am) : Option Alert :=
  if before.faultFlag = false ∧ after.faultFlag = true then some (mkAlert .speedSensor own 0) else none

/-! ### The adhesion limit (R129 to R133) -/

/-- The braking measure B (R129). -/
def brakingMeasure (plan : LatestPlan) (take : Nat) : Nat := if plan.ownDrive then take + plan.t1 + plan.t2 else take

/-- The slip condition (R130); the difference Vref - w is signed. -/
def slipCondition (c : Cfg) (b : Nat) (am : Am) : Bool :=
  fastEnough c am && (((am.vref : Int) - (am.w : Int)) * 256 > (c.shared.slipRatio : Int) * (am.vref : Int)) && 0 < b

/-- A cut: seven eighths of B, not below the floor, never a rise (R131). -/
def cutLimit (c : Cfg) (b limit : Nat) : Nat := min limit (max c.loc.lFloor (b * 7 / 8))

/-- The adhesion-limit stage: spacing, cut, rise. -/
def limitStage (c : Cfg) (b : Nat) (am : Am) : Am :=
  let spacing := min 255 (am.spacing + 1)
  let slip := slipCondition c b am
  if slip && 5 < spacing then { am with limit := cutLimit c b am.limit, spacing := 0, rise := c.loc.riseWait }
  else if 0 < am.rise then { am with spacing := spacing, rise := am.rise - 1 }
  else if slip then { am with spacing := spacing }
  else { am with spacing := spacing, limit := min c.loc.lMax (am.limit + lRiseUsed c) }

/-! ### The evaluation (R122) -/

/-- The AXLE stages after the reference; with the speed-fault flag set the adhesion-limit stage is skipped (R128). -/
def axleStages (c : Cfg) (plan : LatestPlan) (take : Nat) (am : Am) : Am :=
  let am1 := speedFaultStage c take am
  if am1.faultFlag then am1 else limitStage c (brakingMeasure plan take) am1

/-- AM after its evaluation. -/
def amNext (s : State) : Am :=
  let am1 := referenceStage s.cfg s.pt s.am
  if s.role = .axle then axleStages s.cfg s.pe.plan s.sc.take am1 else am1

/-- AM's evaluation, with the capacity of a RETARDER formed anew from the new Vref (R108, R126). -/
def State.evaluateAdhesion (s : State) : State :=
  let s1 := s.setAm (amNext s)
  let s2 := if s.role = .retarder then s1.formCapacity else s1
  s2.offer (if s.role = .axle then speedAlert s.stc.id s.am s1.am else none)

/-- AM_EVALUATION_EXPIRY: in LISTEN, ACTIVE, LOCAL and LEAVING; elsewhere it does nothing (R122). -/
def execAmEvaluationExpiry (s : State) : Host.Outcome State Fault Refusal :=
  answer (if operating s.stc.state then s.evaluateAdhesion else s)

end Sys2Proof.Machine
end

