-- ==== Sys2Proof/Machine/Demand.lean ====
section
/-! DEFINITION. The demand unit (spec/02): stalk, pedal, speed hold, own demand, merge and demand loss; and the meaning of
DU_EVALUATION_EXPIRY. -/

namespace Sys2Proof.Machine

/-! ### Stalk (R38, R39) -/

/-- The effective stalk code and the invalid-code count after a code is read. -/
def stalkNext (c : Cfg) (code : Nat) (du : Du) : Du :=
  if code ≤ 5 then { du with stalk := code, invalidCount := 0 }
  else
    { du with
      stalk := if c.loc.stalkHold < du.invalidCount + 1 then 0 else du.stalk
      invalidCount := min 255 (du.invalidCount + 1) }

/-! ### Pedal (R35 to R37) -/

/-- The demand of a valid channel reading. -/
def channelDemand (c : Cfg) (p : Nat) : Nat :=
  clampNat (((p : Int) - (pedalDeadUsed c : Int)) * (c.loc.pedalGain : Int) / 256) 2047

/-- The pedal demand, if available (R36). -/
def pedalDemand (c : Cfg) (pa pb : Nat) : Option Nat :=
  match readingValid pa, readingValid pb with
  | true, true => some (max (channelDemand c pa) (channelDemand c pb))
  | true, false => some (channelDemand c pa)
  | false, true => some (channelDemand c pb)
  | false, false => none

/-- The pedal condition (R36). -/
def pedalConditionOf (c : Cfg) (pa pb : Nat) : PedalCondition :=
  match readingValid pa, readingValid pb with
  | true, true => if pedalDiffUsed c < (pa - pb) + (pb - pa) then .disagree else .clear
  | true, false => .clear
  | false, true => .clear
  | false, false => .bothInvalid

/-- The PEDAL_DISAGREE alert of a change of the pedal condition (R37). -/
def pedalAlert (own : Ident) (before after : PedalCondition) : Option Alert :=
  if before = after then none
  else
    match after with
    | .clear => none
    | .disagree => some (mkAlert .pedalDisagree own 0)
    | .bothInvalid => some (mkAlert .pedalDisagree own 1)

/-! ### Speed hold (R40 to R43) -/

/-- What the speed-hold controller reads of other blocks: Vref if available, and whether a positive integral step is barred
by a shortfall (R41). -/
structure HoldInputs where
  vref : Option Nat
  barred : Bool
  deriving DecidableEq, Repr

/-- Target and integral latched: HOLDING (R40). The hold demand of this evaluation is the integral, the error being 0. -/
def holdLatch (vref : Nat) (du : Du) : Du :=
  { du with hold := .holding, target := vref, integral := min 2047 du.d, holdDemand := min 2047 du.d }

/-- The integral after an evaluation with error `e` (R41). -/
def integralNext (c : Cfg) (barred : Bool) (e : Int) (i : Nat) : Nat :=
  let step := e * (c.loc.ki : Int) / 64
  if 0 < step ∧ barred then i else clampNat ((i : Int) + step) 2047

/-- The hold demand with error `e` and integral `i` (R42). -/
def holdDemandOf (c : Cfg) (e : Int) (i : Nat) : Nat := clampNat (e * (c.loc.kp : Int) / 16 + (i : Int)) 2047

/-- One evaluation in HOLDING, other than the entry (R41, R42). -/
def holdStep (c : Cfg) (h : HoldInputs) (du : Du) : Du :=
  match h.vref with
  | some v =>
    let e : Int := (v : Int) - (du.target : Int)
    let i := integralNext c h.barred e du.integral
    { du with integral := i, holdDemand := holdDemandOf c e i }
  | none => { du with holdDemand := 0 }

/-- The speed-hold stage, with the effective stalk code of the previous evaluation (R40 to R43). -/
def holdNext (c : Cfg) (h : HoldInputs) (previous : Nat) (du : Du) : Du :=
  if du.stalk = 5 then
    match du.hold with
    | .off =>
      if previous = 5 then { du with holdDemand := 0 }
      else
        match h.vref with
        | some v => holdLatch v du
        | none => { du with hold := .pending, holdDemand := 0 }
    | .pending =>
      match h.vref with
      | some v => holdLatch v du
      | none => { du with holdDemand := 0 }
    | .holding => holdStep c h du
  else
    match du.hold with
    | .off => { du with holdDemand := 0 }
    | .pending | .holding => { du with hold := .off, integral := 0, holdDemand := 0 }

/-! ### Own demand (R44) -/

/-- d_own: the largest of pedal demand (if available), stalk demand and hold demand. -/
def ownDemandOf (c : Cfg) (pedal : Option Nat) (du : Du) : Nat :=
  max (pedal.getD 0) (max (stalkDemandOf c du.stalk) du.holdDemand)

/-! ### Merge and demand loss (R45 to R48) -/

/-- The demand a slot contributes: FRESH, with a demand part younger than DEMAND_AGE; above 2047 it counts as 2047 (R45). -/
def peerDemand (c : Cfg) (slot : Option PeerRecord) : Option Nat :=
  match slot with
  | some r =>
    match r.state, r.demand with
    | .fresh, some p => if p.age < c.shared.demandAge then some (min p.value.toNat 2047) else none
    | _, _ => none
  | none => none

/-- The demands heard from peers that count. -/
def peerDemands (c : Cfg) (t : PeerTable) : List Nat := idents.filterMap fun i => peerDemand c (slotGet t i)

/-- All contributions of the merge stage (R46). -/
def contributions (c : Cfg) (t : PeerTable) (own : Nat) : List Nat :=
  (if c.loc.demandSource then [own] else []) ++ peerDemands c t

/-- The ramp: D falls by DEMAND_RAMP, and the phase is UNSOURCED once D is 0 (R48). -/
def rampDown (c : Cfg) (du : Du) : Du :=
  let d := du.d - demandRampUsed c
  { du with d := d, phase := if d = 0 then .unsourced else .ramping }

/-- The merge stage (R46 to R48). -/
def mergeNext (c : Cfg) (t : PeerTable) (du : Du) : Du :=
  match contributions c t du.own with
  | x :: rest => { du with d := (x :: rest).foldl max 0, phase := .sourced }
  | [] =>
    match du.phase with
    | .unsourced => du
    | .sourced => { du with phase := .holding, lossCount := 1 }
    | .holding =>
      if du.lossCount < c.shared.demandHold then { du with lossCount := du.lossCount + 1 } else rampDown c du
    | .ramping => rampDown c du

/-- The DEMAND_LOST alert: on the first evaluation without a contribution (R47). -/
def lossAlert (own : Ident) (before after : Du) : Option Alert :=
  if before.phase = .sourced ∧ after.phase = .holding then some (mkAlert .demandLost own after.d) else none

/-! ### The evaluation (R34) -/

/-- Stages 1 to 4 of a demand source: stalk, pedal, speed hold, own demand. -/
def driverStages (c : Cfg) (h : HoldInputs) (pa pb stk : Nat) (du : Du) : Du :=
  let du2 := { stalkNext c stk du with pedal := pedalConditionOf c pa pb }
  let du3 := holdNext c h du.stalk du2
  { du3 with own := ownDemandOf c (pedalDemand c pa pb) du3 }

/-- What DU reads of AM and PE at its evaluation (R34, R41). -/
def holdInputsOf (s : State) : HoldInputs where
  vref := if vrefAvailable s.am then some s.am.vref else none
  barred := 0 < s.pe.plan.s || s.pe.shortfall

/-- DU after stages 1 to 4; a station that is no demand source reads neither pedal nor stalk, and its d_own is 0. -/
def ownStages (s : State) : Du :=
  if s.isSource then driverStages s.cfg (holdInputsOf s) s.inp.pa.toNat s.inp.pb.toNat s.inp.stk.toNat s.du else s.du

/-- DU after the merge stage, which is skipped in LOCAL. -/
def mergeStage (s : State) (du : Du) : Du := if s.stc.state = .localOnly then du else mergeNext s.cfg s.pt du

/-- DU's evaluation, as one operation. -/
def State.evaluateDemand (s : State) : State :=
  let du1 := ownStages s
  let du2 := mergeStage s du1
  ((s.setDu du2).offer (pedalAlert s.stc.id s.du.pedal du1.pedal)).offer (lossAlert s.stc.id du1 du2)

/-- DU_EVALUATION_EXPIRY: in LISTEN, ACTIVE and LOCAL; elsewhere it does nothing (R34). -/
def execDuEvaluationExpiry (pa pb : BitVec 10) (stk : BitVec 3) (s : State) : Host.Outcome State Fault Refusal :=
  let s1 := s.latchDriver pa pb stk
  answer (if demandRuns s.stc.state then s1.evaluateDemand else s1)

end Sys2Proof.Machine
end

