-- ==== Sys2Proof/Machine/Peers.lean ====
section
/-! DEFINITION. The peer table (spec/03): what each arriving statement does to the record in its slot, ageing, and the meaning of
AGE_EXPIRY. -/

namespace Sys2Proof.Machine

/-! ### Storing a STANDING (R58) -/

/-- The record's state by the profile codes. -/
def stateByProfile (own theirs : Half) : RecordState := if theirs = own then .fresh else .mismatch

/-- A STANDING learned: every optional part dropped, the fields and the role part stored, age 0. -/
def learned (own : Half) (role : Role) (f : StandingFields) (seq : BitVec 8) : PeerRecord where
  state := stateByProfile own f.profile
  role := role
  drive := f.drive
  guard := f.guard
  speedFault := f.speedFault
  profile := f.profile
  seq := seq
  age := 0
  capacity := f.capacity
  take := f.take
  axle := if role = .axle then some { limit := f.limit, weight := f.weight, wheel := f.wheel } else none
  exhaust := if role = .exhaust then some { n := f.n, k := f.k } else none
  demand := none
  alert := none

/-- A STANDING updates a record: demand part and alert part kept, the degraded-pending mark cleared. -/
def updated (own : Half) (f : StandingFields) (seq : BitVec 8) (r : PeerRecord) : PeerRecord :=
  { learned own r.role f seq with
    demand := r.demand, alert := r.alert.map fun a => { a with degradedPending := false } }

/-- An accepted STANDING of a FRESH or STALE record: updated if it names the record's role and the own profile, learned
otherwise (R58, R60, R61, R64). -/
def stored (own : Half) (role : Role) (f : StandingFields) (seq : BitVec 8) (r : PeerRecord) : PeerRecord :=
  if role = r.role ∧ f.profile = own then updated own f seq r else learned own role f seq

/-- A STANDING that names a role, arriving at a slot (R59 to R63). -/
def standingAtSlot (own : Half) (role : Role) (f : StandingFields) (seq : BitVec 8) : Option PeerRecord → PeerRecord
  | none => learned own role f seq
  | some r =>
    match r.state with
    | .fresh => if seqNewer seq r.seq then stored own role f seq r else r
    | .stale => stored own role f seq r
    | .left => if seqNewer seq r.seq then learned own role f seq else r
    | .mismatch => learned own role f seq

/-- A STANDING arriving at a slot; one with role code 3 is discarded (R56). -/
def takeStandingAt (own : Half) (f : StandingFields) (seq : BitVec 8) (slot : Option PeerRecord) : Option PeerRecord :=
  match roleOfCode f.role.toNat with
  | none => slot
  | some role => some (standingAtSlot own role f seq slot)

/-- The slot is in MISMATCH. -/
def inMismatch : Option PeerRecord → Bool
  | some r => r.state == .mismatch
  | none => false

/-! ### DEMAND, ALERT and LEAVE (R66 to R69) -/

/-- A DEMAND or ALERT is accepted: newer at FRESH, any sequence at STALE, never elsewhere (R66, R67). -/
def acceptsValue (seq : BitVec 8) (r : PeerRecord) : Bool :=
  match r.state with
  | .fresh => seqNewer seq r.seq
  | .stale => true
  | .left | .mismatch => false

/-- A DEMAND arriving at a slot (R66). -/
def takeDemandAt (value : Half) (seq : BitVec 8) (slot : Option PeerRecord) : Option PeerRecord :=
  slot.map fun r =>
    if acceptsValue seq r then { r with demand := some { value := value, age := 0 }, seq := seq } else r

/-- The degraded-pending mark after an accepted ALERT: set by SINK_DEGRADED, else as it was (R68, log 24). -/
def markAfter (code : BitVec 8) (old : Option AlertPart) : Bool :=
  if code = alertCode .sinkDegraded then true else (old.map (·.degradedPending)).getD false

/-- An ALERT arriving at a slot (R67, R68). -/
def takeAlertAt (a : Alert) (seq : BitVec 8) (slot : Option PeerRecord) : Option PeerRecord :=
  slot.map fun r =>
    if acceptsValue seq r then
      { r with
        alert := some { code := a.code, subject := a.subject, degradedPending := markAfter a.code r.alert }, seq := seq }
    else r

/-- The record of a peer that has left: the leave sequence, age 0, demand and alert parts dropped (R69). -/
def leftRecord (seq : BitVec 8) (r : PeerRecord) : PeerRecord :=
  { r with state := .left, seq := seq, age := 0, demand := none, alert := none }

/-- A LEAVE arriving at a slot (R69). -/
def takeLeaveAt (seq : BitVec 8) (slot : Option PeerRecord) : Option PeerRecord :=
  slot.map fun r =>
    match r.state with
    | .fresh | .left => if seqNewer seq r.seq then leftRecord seq r else r
    | .stale | .mismatch => leftRecord seq r

/-! ### Arrival (R56, R65) -/

/-- A statement arriving at its slot. -/
def arriveAt (own : Half) (stmt : Statement) (seq : BitVec 8) (slot : Option PeerRecord) : Option PeerRecord :=
  match stmt with
  | .standing f => takeStandingAt own f seq slot
  | .demand v => takeDemandAt v seq slot
  | .alert a => takeAlertAt a seq slot
  | .leave => takeLeaveAt seq slot

/-- The PROFILE_MISMATCH alert of a slot that enters MISMATCH from any other state (R65). -/
def mismatchAlert (id : Ident) (before after : Option PeerRecord) : Option Alert :=
  match after with
  | some r =>
    if inMismatch after && !inMismatch before then some (mkAlert .profileMismatch id r.profile.toNat) else none
  | none => none

/-- PT takes a peer's statement. -/
def State.peerArrives (id : Ident) (seq : BitVec 8) (stmt : Statement) (s : State) : State :=
  let before := slotGet s.pt id
  let after := arriveAt s.cfg.profile stmt seq before
  (s.setPt (slotSet s.pt id after)).offer (mismatchAlert id before after)

/-! ### Ageing (R70, R71) -/

/-- One age step of a record; `none` where the record empties. -/
def agedRecord (c : Cfg) (r : PeerRecord) : Option PeerRecord :=
  let age := min 255 (r.age + 1)
  let r' := { r with age := age, demand := r.demand.map fun p => { p with age := min 255 (p.age + 1) } }
  match r.state with
  | .fresh => some (if c.shared.staleAge ≤ age then { r' with state := .stale } else r')
  | .stale | .left | .mismatch => if c.shared.absentAge ≤ age then none else some r'

/-- One age step of a slot. -/
def agedSlot (c : Cfg) (slot : Option PeerRecord) : Option PeerRecord := slot.bind (agedRecord c)

/-- AGE_EXPIRY, in every station state (R70, R71). -/
def execAgeExpiry (s : State) : Host.Outcome State Fault Refusal :=
  answer (s.setPt (slotsMap (agedSlot s.cfg) s.pt))

end Sys2Proof.Machine
end

