-- ==== Sys2Proof/Machine/Plan.lean ====
section
/-! DEFINITION. The plan engine (spec/01, spec/10): the plan set, the drive axle and the limit A, the three layers, the latest plan
and the shortfall state; and the meaning of PE_EVALUATION_EXPIRY. -/

namespace Sys2Proof.Machine

/-! ### Members of the plan set (R3 to R8) -/

/-- A member with the values the plan counts for it (R4, R5, R6). -/
structure Member where
  id : Ident
  role : Role
  drive : Bool
  capacity : Nat
  take : Nat
  limit : Nat
  weight : Nat
  n : Nat
  deriving DecidableEq, Repr

/-- The values as the plan counts them: forces at most 2047, a weight share 1 to 100, at most 7 steps (R5). -/
def counted (m : Member) : Member :=
  { m with
    capacity := min m.capacity 2047, take := min m.take 2047, limit := min m.limit 2047
    weight := max 1 (min m.weight 100), n := min m.n 7 }

/-- The degraded-pending mark of a record (R6). -/
def degradedPending (r : PeerRecord) : Bool := (r.alert.map (·.degradedPending)).getD false

/-- A record's member: capacity 0 while marked degraded-pending; a role part that is not there reads 0 (log 23). -/
def peerMember (id : Ident) (r : PeerRecord) : Member :=
  counted
    { id := id
      role := r.role
      drive := r.role == .axle && r.drive
      capacity := if degradedPending r then 0 else r.capacity.toNat
      take := r.take.toNat
      limit := (r.axle.map (·.limit.toNat)).getD 0
      weight := (r.axle.map (·.weight.toNat)).getD 0
      n := (r.exhaust.map (·.n.toNat)).getD 0 }

/-- The own member, with its values as the blocks hold them (R8). They lie within the ranges of R5 already (log 16). -/
def ownMember (s : State) : Member :=
  counted
    { id := s.stc.id
      role := s.role
      drive := cfgDrive s.cfg
      capacity := s.cu.capacity
      take := s.sc.take
      limit := s.am.limit
      weight := s.cfg.loc.weight
      n := s.cfg.loc.n }

/-- The member an identity gives: the own station, or a peer whose record is FRESH (R3). -/
def memberAt (s : State) (id : Ident) : Option Member :=
  if id = s.stc.id then some (ownMember s)
  else
    match slotGet s.pt id with
    | some r => if r.state = .fresh then some (peerMember id r) else none
    | none => none

/-- The plan set, in ascending identity. -/
def planSet (s : State) : List Member := idents.filterMap (memberAt s)

/-- The members of one role, in ascending identity. -/
def ofRole (role : Role) (ms : List Member) : List Member := ms.filter fun m => m.role == role

/-! ### The drive axle and the limit A (R9, R10) -/

/-- The drive axle: the AXLE member with the drive flag that has the lowest identity. -/
def driveAxle (ms : List Member) : Option Member := (ofRole .axle ms).find? (·.drive)

/-- The limit A. -/
def limitA (fallback : Nat) (ms : List Member) : Nat :=
  match driveAxle ms with
  | some d => d.limit
  | none => fallback

/-! ### Shares -/

/-- The share of a member. -/
structure Share where
  id : Ident
  p : Nat
  deriving DecidableEq, Repr

/-- The planned step and share of an EXHAUST member. -/
structure StepShare where
  id : Ident
  k : Nat
  p : Nat
  deriving DecidableEq, Repr

/-- One unit per eligible place, in order, until the remainder is 0 (R16, R22, R27). -/
def handOut : Nat → List (Bool × Nat) → List Nat
  | _, [] => []
  | 0, (_, p) :: rest => p :: handOut 0 rest
  | r + 1, (true, p) :: rest => (p + 1) :: handOut r rest
  | r + 1, (false, p) :: rest => p :: handOut (r + 1) rest

/-! ### Layer 1 (R11 to R13) -/

/-- The step value C / n rounded down; 0 when n is 0 (R11). -/
def stepValue (capacity n : Nat) : Nat := capacity / n

/-- Layer 1 over the EXHAUST members in ascending identity, with the budget left (R12). -/
def layer1 : Nat → List Member → List StepShare
  | _, [] => []
  | budget, m :: rest =>
    let s := stepValue m.capacity m.n
    let k := if s = 0 then 0 else min m.n (budget / s)
    { id := m.id, k := k, p := k * s } :: layer1 (budget - k * s) rest

/-- The sum of the takes of some members (R13, R17). -/
def takeTotal (ms : List Member) : Nat := (ms.map (·.take)).sum

/-! ### Layer 2 (R14 to R17) -/

/-- The shares of the RETARDER members for the layer's total B2. -/
def layer2 (b2 : Nat) (ms : List Member) : List Share :=
  let cq := (ms.map (·.capacity)).sum
  if cq = 0 then ms.map fun m => { id := m.id, p := 0 }
  else
    let part (m : Member) : Nat := b2 * m.capacity / cq
    let rem := b2 - (ms.map part).sum
    (ms.zip (handOut rem (ms.map fun m => (part m < m.capacity, part m)))).map fun x => { id := x.1.id, p := x.2 }

/-! ### Layer 3 (R18 to R28) -/

/-- The headroom of an AXLE member (R19). -/
def headroom (d : Option Member) (t1 t2 : Nat) (m : Member) : Nat :=
  if d.map (·.id) = some m.id then min m.capacity (m.limit - t1 - t2) else min m.capacity m.limit

/-- An AXLE member's place in layer 3: its weight share, its headroom and a force. -/
structure Place where
  id : Ident
  weight : Nat
  room : Nat
  p : Nat
  deriving DecidableEq, Repr

/-- Pass 1: the grants by weight share with the remainder handed out (R21, R22). -/
def grants (r : Nat) (xs : List Place) : List Place :=
  let wsum := (xs.map (·.weight)).sum
  let g (x : Place) : Nat := r * x.weight / wsum
  let rem1 := r - (xs.map g).sum
  (xs.zip (handOut rem1 (xs.map fun x => (true, g x)))).map fun y => { y.1 with p := y.2 }

/-- The clamp to the headroom (R23). -/
def clampPlace (x : Place) : Place := { x with p := min x.p x.room }

/-- The excess: what the clamp takes back (R23). -/
def excess (granted : List Place) : Nat := (granted.map fun x => x.p - min x.p x.room).sum

/-- The room left to the open members (R24); a member at its headroom has none. -/
def openRoom (xs : List Place) : Nat := (xs.map fun x => x.room - x.p).sum

/-- Pass 2 when the excess is at least the open room: every open member goes to its headroom (R25). -/
def fillRoom (x : Place) : Place := if x.p < x.room then { x with p := x.room } else x

/-- Pass 2 when the excess is less: additions by room, then the remainder to the members still below (R26, R27). -/
def spreadExcess (e : Nat) (xs : List Place) : List Place :=
  let hsum := openRoom xs
  let add (x : Place) : Nat := e * (x.room - x.p) / hsum
  let rem2 := e - (xs.map add).sum
  (xs.zip (handOut rem2 (xs.map fun x => (x.p < x.room && x.p + add x < x.room, x.p + add x)))).map
    fun y => { y.1 with p := y.2 }

/-- Layer 3 for the residual R: the places with their service shares, and the shortfall (R20 to R28). -/
def layer3 (r : Nat) (xs : List Place) : List Place × Nat :=
  if xs = [] then ([], r)
  else
    let granted := grants r xs
    let e := excess granted
    let clamped := granted.map clampPlace
    let hsum := openRoom clamped
    if hsum ≤ e then (clamped.map fillRoom, e - hsum) else (spreadExcess e clamped, 0)

/-! ### The plan (R1) -/

/-- A whole plan (R1): the shares of every member, the planned steps, the layer totals, the drive axle, the limit A and the
shortfall. -/
structure Plan where
  stepped : List StepShare
  proportional : List Share
  service : List Place
  drive : Option Ident
  limit : Nat
  t1 : Nat
  t2 : Nat
  s : Nat
  deriving DecidableEq, Repr

/-- The plan of a plan set for the demand D, with CONT_FALLBACK (R1). -/
def planOf (d fallback : Nat) (ms : List Member) : Plan :=
  let a := limitA fallback ms
  let exhausts := ofRole .exhaust ms
  let retarders := ofRole .retarder ms
  let axles := ofRole .axle ms
  let t1 := takeTotal exhausts
  let u2 := min d a - t1
  let b2 := min u2 (retarders.map (·.capacity)).sum
  let t2 := takeTotal retarders
  let drive := driveAxle ms
  let l3 := layer3 (d - t1 - t2)
    (axles.map fun m => { id := m.id, weight := m.weight, room := headroom drive t1 t2 m, p := 0 })
  { stepped := layer1 (min d a) exhausts
    proportional := layer2 b2 retarders
    service := l3.1
    drive := drive.map (·.id)
    limit := a
    t1 := t1
    t2 := t2
    s := l3.2 }

/-- The plan PE computes from the inputs as they stand (R2). -/
def computePlan (s : State) : Plan := planOf s.du.d (contFallbackUsed s.cfg) (planSet s)

/-- The share a plan gives an identity; 0 for one outside the plan set. -/
def planShare (p : Plan) (id : Ident) : Nat :=
  ((p.stepped.find? (·.id == id)).map (·.p)).getD
    (((p.proportional.find? (·.id == id)).map (·.p)).getD
      (((p.service.find? (·.id == id)).map (·.p)).getD 0))

/-- The planned step a plan gives an identity; 0 for one that is no EXHAUST member. -/
def planStep (p : Plan) (id : Ident) : Nat := ((p.stepped.find? (·.id == id)).map (·.k)).getD 0

/-- What the latest plan keeps of a plan (R31). -/
def latestOf (own : Ident) (p : Plan) : LatestPlan :=
  { share := planShare p own, step := planStep p own, ownDrive := p.drive == some own, t1 := p.t1, t2 := p.t2, s := p.s }

/-! ### The shortfall state (R183, R184) -/

/-- A plan's S lies on the far side of SHORT_MIN from the present shortfall state. -/
def farSide (c : Cfg) (on : Bool) (s : Nat) : Bool := if on then s ≤ shortMinUsed c else shortMinUsed c < s

/-- The shortfall state and run count after a plan with shortfall `s`. -/
def shortfallNext (c : Cfg) (s : Nat) (on : Bool) (run : Nat) : Bool × Nat :=
  if farSide c on s then
    if run + 1 < c.shared.shortPeriods then (on, run + 1) else (!on, 0)
  else (on, 0)

/-- PE after a plan. -/
def peNext (c : Cfg) (own : Ident) (p : Plan) (pe : Pe) : Pe :=
  let next := shortfallNext c p.s pe.shortfall pe.run
  { plan := latestOf own p, shortfall := next.1, run := next.2 }

/-- The SHORTFALL alert of a demand source at the plan that turns the state on (R185). -/
def shortfallAlert (s : State) (p : Plan) (pe : Pe) : Option Alert :=
  if s.isSource && !s.pe.shortfall && pe.shortfall then some (mkAlert .shortfall s.stc.id p.s) else none

/-- PE's evaluation in ACTIVE (R1, R183 to R185). -/
def State.planNow (s : State) : State :=
  let p := computePlan s
  let pe := peNext s.cfg s.stc.id p s.pe
  (s.setPe pe).offer (shortfallAlert s p pe)

/-- PE_EVALUATION_EXPIRY: a plan in ACTIVE; in any other state the latest plan keeps its value (R1). -/
def execPeEvaluationExpiry (s : State) : Host.Outcome State Fault Refusal :=
  answer (if s.stc.state = .active then s.planNow else s)

end Sys2Proof.Machine
end

