-- ==== Sys2Proof/Machine/Transmit.lean ====
section
/-! DEFINITION. What the station says (spec/04, R76 to R93): forming STANDING and DEMAND, the free line, access, and the frame being
sent; the meanings of STANDING_EXPIRY, DEMAND_EXPIRY, LINE_FREE_POINT, START_BIT, ACCESS_WAIT_END and CHARACTER_READ_BACK. -/

namespace Sys2Proof.Machine

/-! ### Forming statements (R79, R80, R82) -/

/-- A value sent for an AXLE and as 0 for another role. -/
def forAxle (s : State) (x : Nat) : Nat := if s.role = .axle then x else 0

/-- A value sent for an EXHAUST and as 0 for another role. -/
def forExhaust (s : State) (x : Nat) : Nat := if s.role = .exhaust then x else 0

/-- The STANDING of the owners' current values. -/
def formStanding (s : State) : StandingFields where
  role := roleCodeOf s.role
  drive := cfgDrive s.cfg
  guard := s.cu.guarded
  speedFault := s.role == .axle && s.am.faultFlag
  profile := s.cfg.profile
  capacity := BitVec.ofNat 16 s.cu.capacity
  take := BitVec.ofNat 16 s.sc.take
  limit := BitVec.ofNat 16 (forAxle s s.am.limit)
  wheel := BitVec.ofNat 16 (forAxle s s.am.w)
  weight := BitVec.ofNat 8 (forAxle s s.cfg.loc.weight)
  n := BitVec.ofNat 4 (forExhaust s s.cfg.loc.n)
  k := BitVec.ofNat 4 (forExhaust s s.sc.kNow)

/-- A formed statement enters the slot of its class. -/
def State.enterSlot (cls : SlotClass) (stmt : Statement) (s : State) : State :=
  s.putStx (withSlot s.stx cls (slotEnter stmt (slotOf s.stx cls)))

/-- STANDING_EXPIRY: in ACTIVE a STANDING is formed; elsewhere nothing (R79). -/
def execStandingExpiry (s : State) : Host.Outcome State Fault Refusal :=
  answer (if s.stc.state = .active then s.enterSlot .standing (.standing (formStanding s)) else s)

/-- DEMAND_EXPIRY: in ACTIVE a demand source forms a DEMAND carrying d_own; else nothing (R80). -/
def execDemandExpiry (s : State) : Host.Outcome State Fault Refusal :=
  answer
    (if s.stc.state = .active ∧ s.isSource then s.enterSlot .demand (.demand (BitVec.ofNat 16 s.du.own)) else s)

/-! ### The free line (R76, R88, R94) -/

/-- Bit times of quiet to the line-free point. -/
def quietBits : Nat := 14

/-- The receiver at a line-free point: armed if it was not, and a frame in progress abandoned as truncated. -/
def rxAtLineFree : Receiver → Receiver
  | .disarmed | .hunting | .inFrame _ => .hunting

/-- LP at a line-free point. -/
def lpLineFree (lp : Lp) : Lp :=
  { lp with line := .free, origin := .lineFreePoint, tail := .none, rx := rxAtLineFree lp.rx }

/-- LINE_FREE_POINT: a BUSY line that has been quiet for 14 bit times becomes FREE, in the states in which LP watches the
line; a line that is FREE already has had its line-free point (R76, log 18). -/
def execLineFreePoint (quiet : Nat) (s : State) : Host.Outcome State Fault Refusal :=
  answer
    (if operating s.stc.state ∧ s.lp.line = .busy ∧ quietBits ≤ quiet then s.setLp (lpLineFree s.lp) else s)

/-- START_BIT: the line is BUSY, and no access wait runs until the next line-free point (R76, R89). -/
def execStartBit (s : State) : Host.Outcome State Fault Refusal :=
  answer (if operating s.stc.state then s.setLp { s.lp with line := .busy, tail := .none } else s)

/-! ### Access (R88, R93) -/

/-- The most urgent PENDING slot and what it holds: urgent before demand, demand before standing. -/
def mostUrgent (x : Stx) : Option (SlotClass × Held) :=
  match x.urgent, x.demand, x.standing with
  | .pending h, _, _ => some (.urgent, h)
  | _, .pending h, _ => some (.demand, h)
  | _, _, .pending h => some (.standing, h)
  | _, _, _ => none

/-- The number of a class (R81). -/
def classNumber : SlotClass → Nat
  | .urgent => 0
  | .demand => 1
  | .standing => 2

/-- The restraint: 24 while RESTRAINED, else 0. -/
def restraint (st : Standing) : Nat :=
  match st with
  | .restrained => 24
  | .speaking | .silent => 0

/-- The access wait of a slot, in bit times. -/
def accessWait (s : State) (cls : SlotClass) : Nat := (classNumber cls * 8 + s.stc.id.val + restraint s.standing) * 3

/-- A statement may start in ACTIVE, and the LEAVE in LEAVING (R93). -/
def mayStart (state : StationState) (stmt : Statement) : Bool :=
  match state with
  | .active => true
  | .leaving => stmt == .leave
  | .config | .listen | .localOnly | .parked | .fault => false

/-- An access wait runs: the line is FREE with its origin set, nothing is being sent, the station is not SILENT. -/
def accessRuns (s : State) : Bool :=
  s.lp.line == .free && s.lp.origin != .unset && !s.de && s.standing != .silent

/-! ### Starting a frame (R83, R90) -/

/-- The statement as its attempt starts: an unnumbered one takes the counter's value. -/
def numbered (counter : BitVec 8) (h : Held) : Held := { h with seq := some (h.seq.getD counter) }

/-- The counter after an attempt starts: one on if a number was handed out. -/
def counterAfter (counter : BitVec 8) (h : Held) : BitVec 8 := if h.seq = none then counter + 1 else counter

/-- The slot becomes SENDING, its statement numbered, and DE is asserted with the header on TXD. -/
def State.startFrame (cls : SlotClass) (h : Held) (s : State) : State :=
  let h' := numbered s.stx.seq h
  let x := withSlot { s.stx with seq := counterAfter s.stx.seq h } cls (.sending h' none false)
  (s.setStx x).setLp
    { s.lp with
      tx := some { cls := cls, bytes := frameOf s.stc.id (h.seq.getD s.stx.seq) h.stmt, idx := 0 }, tail := .none }

/-- LP starts the most urgent slot's frame if its access wait has run out. -/
def State.tryStart (elapsed : Nat) (s : State) : State :=
  match mostUrgent s.stx with
  | some (cls, h) =>
    if accessRuns s ∧ mayStart s.stc.state h.stmt ∧ accessWait s cls ≤ elapsed then s.startFrame cls h else s
  | none => s

/-- ACCESS_WAIT_END: the time since the access origin has reached the access wait (R88, R90, R93). -/
def execAccessWaitEnd (elapsed : Nat) (s : State) : Host.Outcome State Fault Refusal := answer (s.tryStart elapsed)

/-! ### The frame being sent (R90 to R92) -/

/-- The character read back is the one sent: data, mark, and a good stop bit. -/
def readBackMatches (f : TxFrame) (c : Character) : Bool :=
  charGood c && charMark c == (f.idx == 0) && charData c == byteAt f.bytes f.idx

/-- The character being sent is the frame's last. -/
def lastCharacter (f : TxFrame) : Bool := f.bytes.length ≤ f.idx + 1

/-- The attempt that leaves this failed count is the third. -/
def thirdFailure (h : Held) : Bool := 3 ≤ h.failed + 1

/-- A SENDING slot after a failed attempt (R91, R87, R101). -/
def slotAfterFailure (h : Held) (followUp : Option Statement) (noRetry : Bool) : Slot :=
  match followUp with
  | some stmt => .pending (newlyHeld stmt)
  | none => if thirdFailure h || noRetry then .empty else .pending { h with failed := h.failed + 1 }

/-- A SENDING slot after its frame completes (R92). -/
def slotAfterCompletion (followUp : Option Statement) : Slot :=
  match followUp with
  | some stmt => .pending (newlyHeld stmt)
  | none => .empty

/-- STC takes a report that the LEAVE is gone, completed or discarded; it means something in LEAVING alone (R168). -/
def State.leaveReported (gone : Bool) (s : State) : State :=
  if gone ∧ s.stc.state = .leaving then s.enterParked else s

/-- A failed attempt settled in its slot; a discard raises the trouble count by 8 (R91, R98). -/
def State.attemptFailed (cls : SlotClass) (s : State) : State :=
  match slotOf s.stx cls with
  | .sending h followUp noRetry =>
    let s1 := (s.putStx (withSlot s.stx cls (slotAfterFailure h followUp noRetry))).fillUrgent
    let s2 := if thirdFailure h then s1.countLp (lpRaise 8 s1.lp) else s1
    s2.leaveReported (thirdFailure h && h.stmt == .leave)
  | .empty | .pending _ => s

/-- A completed frame: the trouble count falls by 1 and the slot empties or takes its follow-up (R92, R98). -/
def State.frameCompleted (cls : SlotClass) (s : State) : State :=
  match slotOf s.stx cls with
  | .sending h followUp _ =>
    let s1 := s.setLp (lpLower s.lp)
    let s2 := (s1.putStx (withSlot s1.stx cls (slotAfterCompletion followUp))).fillUrgent
    s2.leaveReported (h.stmt == .leave)
  | .empty | .pending _ => s

/-- LP as a frame ends; with no character read back the line is taken as BUSY (R90). -/
def lpFrameEnds (tail : CharTail) (read : Option Character) (lp : Lp) : Lp :=
  { lp with tx := none, tail := tail, line := if read = none then .busy else lp.line }

/-- The read-back of a character of the frame under way: the next character, completion, or collision. -/
def State.readBack (f : TxFrame) (read : Option Character) (s : State) : State :=
  if read.any (readBackMatches f) then
    if lastCharacter f then (s.setLp (lpFrameEnds .completed read s.lp)).frameCompleted f.cls
    else s.setLp { s.lp with tx := some { f with idx := f.idx + 1 } }
  else (s.setLp (lpFrameEnds .collided read s.lp)).attemptFailed f.cls

/-- CHARACTER_READ_BACK: with no frame under way there is no character to compare (R90). -/
def execCharacterReadBack (read : Option Character) (ign : Bool) (s : State) : Host.Outcome State Fault Refusal :=
  let s1 := s.latchIgn ign
  answer
    (match s.lp.tx with
    | some f => s1.readBack f read
    | none => s1)

end Sys2Proof.Machine
end

