-- ==== Sys2Proof/Machine/Receive.lean ====
section
/-! DEFINITION. What the station hears (spec/04, R94 to R100; spec/08, R164, R173): the receiver, the judgement of a complete frame,
and the meaning of CHARACTER_RECEIVED. -/

namespace Sys2Proof.Machine

/-! ### Own DE and the character (R95, R96; log 5) -/

/-- The character just received was under own DE: DE is asserted, or was released at the end of this same character. -/
def underDE (s : State) : Bool := s.de || s.lp.tail != .none

/-- The own transmission of a frame that ends with this character is completed: it has just completed, or this character is
its last and reads back without difference. -/
def ownCompleted (s : State) (c : Character) : Bool :=
  s.lp.tail == .completed || s.lp.tx.any fun f => lastCharacter f && readBackMatches f c

/-! ### Errors and frames -/

/-- LP's receiver in a new state. -/
def State.setRx (s : State) (rx : Receiver) : State := s.setLp { s.lp with rx := rx }

/-- A receive error: the receiver hunts, and the error counts unless it fell under own DE (R94, R95). -/
def State.receiveError (own : Bool) (s : State) : State :=
  let s1 := s.setRx .hunting
  if own then s1 else s1.countLp (lpReceiveError s1.lp)

/-- A header character, handled as in HUNTING (R94). -/
def State.headerArrives (c : Character) (own : Bool) (s : State) : State :=
  if charGood c then
    match headerLength (charData c) with
    | some n => s.setRx (.inFrame { bytes := [charData c], expected := n, begunDE := own, allDE := own })
    | none => s.receiveError own
  else s.receiveError own

/-- Does an alert code start the warn hold? (R173) -/
def startsWarnHold (code : BitVec 8) : Bool :=
  code == alertCode .shortfall || code == alertCode .demandLost || code == alertCode .pedalDisagree

/-- STC takes a valid ALERT of a peer (R173). -/
def State.warnArrives (stmt : Statement) (s : State) : State :=
  match stmt with
  | .alert a => if startsWarnHold a.code then s.setStc { s.stc with warnHold := s.cfg.shared.warnHold } else s
  | .standing _ | .demand _ | .leave => s

/-- SRX hands a peer's statement to PT, and an ALERT to STC as well (R97). -/
def State.handOn (bytes : List Byte) (s : State) : State :=
  (s.peerArrives (headerIdent (byteAt bytes 0)) (byteAt bytes 1) (statementOf bytes)).warnArrives (statementOf bytes)

/-- A valid frame (R95, R96): the echo is discarded; any other counts first, and then the own identity is a duplicate and a
peer's statement is handed on (log 12). -/
def State.validFrame (f : RxFrame) (completed : Bool) (s : State) : State :=
  if headerIdent (byteAt f.bytes 0) = s.stc.id then
    if f.allDE ∧ completed then s
    else (s.countLp (lpValidFrame s.lp)).enterFault .dupId
  else (s.countLp (lpValidFrame s.lp)).handOn f.bytes

/-- A complete frame: valid when its CRC checks (R95). -/
def State.frameComplete (f : RxFrame) (own completed : Bool) (s : State) : State :=
  if frameChecks f.bytes then (s.setRx .hunting).validFrame f completed
  else s.receiveError (own || f.begunDE)

/-- The frame in progress with one more character. -/
def rxAppend (f : RxFrame) (b : Byte) (own : Bool) : RxFrame :=
  { f with bytes := f.bytes ++ [b], allDE := f.allDE && own }

/-- A character with mark 0 while IN_FRAME (R94). -/
def State.bodyArrives (f : RxFrame) (c : Character) (own completed : Bool) (s : State) : State :=
  if charGood c then
    let f' := rxAppend f (charData c) own
    if f'.expected ≤ f'.bytes.length then s.frameComplete f' own completed else s.setRx (.inFrame f')
  else s.receiveError (own || f.begunDE)

/-- The armed receiver takes a character (R94). -/
def State.characterArrives (c : Character) (own completed : Bool) (s : State) : State :=
  match s.lp.rx with
  | .disarmed => s
  | .hunting => if charMark c then s.headerArrives c own else s
  | .inFrame f => if charMark c then s.headerArrives c own else s.bodyArrives f c own completed

/-- CHARACTER_RECEIVED: in LISTEN, ACTIVE, LOCAL and LEAVING; elsewhere the line port receives nothing (R56, R94). -/
def execCharacterReceived (c : Character) (s : State) : Host.Outcome State Fault Refusal :=
  answer
    (if operating s.stc.state then
      (s.setLp { s.lp with tail := .none }).characterArrives c (underDE s) (ownCompleted s c)
    else s)

end Sys2Proof.Machine
end

