-- ==== Sys2Proof/Machine/Sink.lean ====
section
/-! DEFINITION. The sink controller (spec/07): take, temperature hold, command, step hold, supervision; and the meanings of
SINK_EXPIRY, THERMAL_EXPIRY, ENG_PULSE and WHEEL_PULSE. -/

namespace Sys2Proof.Machine

/-! ### Stage 1: the windows close (R105, R123) -/

/-- The ENG window of an EXHAUST station and the WHEEL window of an AXLE station close. -/
def State.closeWindows (s : State) : State :=
  match s.role with
  | .exhaust => s.setCu (cuCloseWindow s.cu)
  | .axle => s.setAm (amCloseWindow s.cfg s.am)
  | .retarder => s

/-! ### Stage 2: temperature (R140, R112) -/

/-- The temperature hold after a reading. -/
def tempHoldNext (c : Cfg) (r : Nat) (sc : Sc) : Sc :=
  if readingValid r then { sc with tempHoldCount := 0, tempHold := false }
  else
    { sc with
      tempHoldCount := min 255 (sc.tempHoldCount + 1)
      tempHold := sc.tempHold || c.loc.sensorHold < sc.tempHoldCount + 1 }

/-- A valid reading presents its code, which CU takes and compares (R109); an invalid one presents nothing. -/
def codeStage (c : Cfg) (r : Nat) (cu : Cu) : Cu := if readingValid r then cuTakeCode c (tempCode c r) cu else cu

/-- The temperature stage of a continuous role; an AXLE station does not read TEMP. -/
def State.temperatureStage (s : State) : State :=
  if s.role = .axle then s
  else (s.setSc (tempHoldNext s.cfg s.inp.temp.toNat s.sc)).setCu (codeStage s.cfg s.inp.temp.toNat s.cu)

/-! ### Stage 3: feedback range (R150) -/

/-- The range fault of the present readings, as the cause it would give. -/
def rangeFault (s : State) : DegradedCause :=
  match s.role with
  | .exhaust => if s.cfg.loc.n < s.inp.pos.toNat then .positionRange else .none
  | .retarder | .axle => if readingValid s.inp.fb.toNat then .none else .feedbackRange

/-- The cause code: 1 tolerance, 2 feedback range, 3 position range (R77, R151). -/
def causeCode : DegradedCause → Nat
  | .none => 0
  | .tolerance => 1
  | .feedbackRange => 2
  | .positionRange => 3

/-- Entry to DEGRADED (R151): cause recorded, command and step at 0, SINK_DEGRADED offered. The supervision count is put to 0
by the next sink expiry (R152, log 11). -/
def State.degrade (cause : DegradedCause) (s : State) : State :=
  (s.setSc { s.sc with degraded := true, cause := cause, c := 0, kNow := 0, riseHold := 0 }).offerAlert
    (mkAlert .sinkDegraded s.stc.id (causeCode cause))

/-- The feedback stage: a range fault of a NORMAL sink makes it DEGRADED at once. -/
def State.feedbackStage (s : State) : State :=
  if s.sc.degraded = false ∧ rangeFault s ≠ .none then s.degrade (rangeFault s) else s

/-! ### Stage 5: the take (R137, R138) -/

/-- The take of a feedback reading. -/
def feedbackTake (c : Cfg) (fb : Nat) : Nat :=
  if readingValid fb then min 2047 ((fb - fbZeroUsed c) * c.loc.fbGain / 256) else 0

/-- The own step value s, from the capacity in force (R11, R138). -/
def State.ownStep (s : State) : Nat := stepValue s.cu.capacity s.cfg.loc.n

/-- The take of a flap position. -/
def positionTake (n step pos : Nat) : Nat := if pos ≤ n then pos * step else 0

/-- The take the readings of this expiry give. -/
def takeOf (s : State) : Nat :=
  match s.role with
  | .exhaust => positionTake s.cfg.loc.n s.ownStep s.inp.pos.toNat
  | .retarder | .axle => feedbackTake s.cfg s.inp.fb.toNat

/-- The take stage. -/
def State.takeStage (s : State) : State := s.setSc { s.sc with take := takeOf s }

/-! ### Stage 6: supervision (R149, R152) -/

/-- The command of the window just closed: c, or for EXHAUST k_now times the s of this expiry. -/
def windowCommand (s : State) : Nat := if s.role = .exhaust then s.sc.kNow * s.ownStep else s.sc.c

/-- The mismatch |t - c_prev|. -/
def mismatch (t c : Nat) : Nat := (t - c) + (c - t)

/-- The supervision count after a mismatch. -/
def supCountNext (c : Cfg) (m count : Nat) : Nat := if m ≤ supTolUsed c then 0 else min 255 (count + 1)

/-- The supervision stage; at SUP_PERIODS the sink enters DEGRADED with cause 1, and CU forms C = 0 at once. -/
def State.supervisionStage (s : State) : State :=
  if s.sc.degraded then s.setSc { s.sc with supCount := 0 }
  else
    let count := supCountNext s.cfg (mismatch s.sc.take (windowCommand s)) s.sc.supCount
    let s1 := s.setSc { s.sc with supCount := count }
    if supPeriodsUsed s.cfg ≤ count then (s1.degrade .tolerance).formCapacity else s1

/-! ### Stage 7: the command (R142 to R147) -/

/-- The target of the command (R142). -/
def commandTarget (s : State) : Nat :=
  if s.sc.degraded then 0
  else
    match s.stc.state with
    | .active => s.pe.plan.share
    | .localOnly => fallbackTarget s
    | .config | .listen | .leaving | .parked | .fault => 0

/-- The command moves: down at once, up by at most SLEW_UP (R143). -/
def slew (c : Cfg) (target command : Nat) : Nat := if target ≤ command then target else min target (command + slewUpUsed c)

/-- The step in force and the rise hold count by the planned step (R146). -/
def stepHoldNext (c : Cfg) (kPlan kNow count : Nat) : Nat × Nat :=
  if kPlan < kNow then (kPlan, 0)
  else if kPlan = kNow then (kNow, 0)
  else if count + 1 < stepHoldUsed c then (kNow, count + 1)
  else (kNow + 1, 0)

/-- The step in force lowered where it gives more than the own share (R147). -/
def stepCorrection (step share : Nat) (x : Nat × Nat) : Nat × Nat :=
  if 0 < step ∧ share < x.1 * step then (share / step, 0) else x

/-- k_now and the rise hold count of an EXHAUST station; 0 but in ACTIVE with the sink NORMAL (R146). -/
def exhaustStep (s : State) : Nat × Nat :=
  if s.stc.state = .active ∧ s.sc.degraded = false then
    stepCorrection s.ownStep s.pe.plan.share (stepHoldNext s.cfg s.pe.plan.step s.sc.kNow s.sc.riseHold)
  else (0, 0)

/-- SC after the command stage (R142, R143, R146 to R148). -/
def commandNext (s : State) : Sc :=
  if s.role = .exhaust then
    { s.sc with kNow := (exhaustStep s).1, riseHold := (exhaustStep s).2, c := (exhaustStep s).1 * s.ownStep }
  else { s.sc with c := slew s.cfg (commandTarget s) s.sc.c }

/-- The command stage. -/
def State.commandStage (s : State) : State := s.setSc (commandNext s)

/-! ### The sink expiry (R136) -/

/-- Stages 1 to 7 in order; stage 8, the outputs, is the driving of the pins. -/
def State.sinkStages (s : State) : State :=
  let measured := s.closeWindows.temperatureStage.feedbackStage.formCapacity
  measured.takeStage.supervisionStage.commandStage

/-- SINK_EXPIRY: in LISTEN, ACTIVE, LOCAL and LEAVING; elsewhere SC does nothing (R136). -/
def execSinkExpiry (fb temp : BitVec 10) (pos : BitVec 3) (s : State) : Host.Outcome State Fault Refusal :=
  let s1 := s.latchSink fb temp pos
  answer (if operating s.stc.state then s1.sinkStages else s1)

/-! ### The thermal expiry (R114) -/

/-- TE's three steps, and CU with the new code. -/
def State.heatAndCool (s : State) : State :=
  (s.setTe { s.te with theta := estimateNext s.cfg s.sc.take (heatSpeed s.am) s.te.theta }).takeEstimate

/-- THERMAL_EXPIRY: an AXLE station in LISTEN, ACTIVE, LOCAL and LEAVING; elsewhere TE does nothing (R113, R114). -/
def execThermalExpiry (s : State) : Host.Outcome State Fault Refusal :=
  answer (if operating s.stc.state ∧ s.role = .axle then s.heatAndCool else s)

/-! ### Pulses (R105, R123) -/

/-- ENG_PULSE: one more pulse in the window of an EXHAUST station; before the first window, in another role or in a state in
which engine speed is not measured, it does nothing (log 7). -/
def execEngPulse (s : State) : Host.Outcome State Fault Refusal :=
  answer
    (if operating s.stc.state ∧ s.role = .exhaust ∧ s.cu.engOpen then
      s.setCu { s.cu with engPulses := s.cu.engPulses + 1 }
    else s)

/-- WHEEL_PULSE: one more pulse in the window of an AXLE station, saturating at 65535; before the first window, in another
role or in a state in which wheel speed is not measured, it does nothing (log 7). -/
def execWheelPulse (s : State) : Host.Outcome State Fault Refusal :=
  answer
    (if operating s.stc.state ∧ s.role = .axle ∧ s.am.windowOpen then
      s.setAm { s.am with pulses := min 65535 (s.am.pulses + 1) }
    else s)

end Sys2Proof.Machine
end

