-- ==== Sys2Proof/Machine/Station.lean ====
section
/-! DEFINITION. The station controller and its loader (spec/08, spec/09): the meanings of POWER_ON, RESETN, CONFIGURATION_READ,
SPI_TRANSACTION_END, STC_EVALUATION_EXPIRY and PARK_TIMER_TICK. -/

namespace Sys2Proof.Machine

/-! ### Entering CONFIG (R157) -/

/-- POWER_ON: CONFIG, every block at its power-on values. -/
def execPowerOn (s : State) : Host.Outcome State Fault Refusal := answer s.enterConfig

/-- RESETN: a low level enters CONFIG anew from any state, whatever read or frame was in progress, and holds the read off. -/
def execResetn (s : State) : Host.Outcome State Fault Refusal := answer (s.enterConfig.latchResetn false)

/-! ### The configuration read (R176, R177) -/

/-- CONFIGURATION_READ: in CONFIG with no read in progress, the straps are sampled as the own identity and the shared
transaction starts (R157, R176). -/
def execConfigurationRead (straps : BitVec 3) (s : State) : Host.Outcome State Fault Refusal :=
  let s1 := s.latchStraps straps
  answer
    (if s.stc.state = .config ∧ s.loader.phase = .idle then
      (s1.setStc { s.stc with id := straps.toFin }).setLoader { Loader.powerOn with phase := .sharedBlock }
    else s1)

/-- The loader reports invalid (R158, R177, R180). DESIGN CHOICE: its own state is cleared at the result (log 28). -/
def State.loadInvalid (s : State) : State := (s.setLoader Loader.powerOn).enterFault .config

/-- A block whose CRC differs: its transaction once more, or invalid at the second failure (R177). -/
def State.blockDiffers (s : State) : State :=
  if s.loader.firstFailed then s.loadInvalid else s.setLoader { s.loader with firstFailed := true }

/-- The configuration of two accepted blocks. -/
def loadedCfg (sharedBytes localBytes : List Byte) (profile : Half) : Cfg :=
  { shared := sharedOf sharedBytes, loc := localOf localBytes, profile := profile }

/-- Both blocks accepted: the checks, and the loader's result (R158, R180). DESIGN CHOICE: the loader's own state is cleared at the
result (log 28). -/
def State.bothAccepted (localBytes : List Byte) (s : State) : State :=
  if checksPass s.loader.sharedBytes localBytes then
    (s.setLoader Loader.powerOn).putInForce (loadedCfg s.loader.sharedBytes localBytes s.loader.profile)
  else s.loadInvalid

/-- The end of the transaction in progress (R177, R179). -/
def State.transactionEnds (miso : List Byte) (s : State) : State :=
  let bytes := clockedIn s.loader.phase miso
  match s.loader.phase with
  | .idle => s
  | .sharedBlock =>
    if blockMatches bytes then
      s.setLoader { phase := .localBlock, firstFailed := false, sharedBytes := bytes, profile := blockCrc bytes }
    else s.blockDiffers
  | .localBlock => if blockMatches bytes then s.bothAccepted bytes else s.blockDiffers

/-- SPI_TRANSACTION_END: with no transaction in progress there is none to end (R177). -/
def execSpiTransactionEnd (miso : List Byte) (s : State) : Host.Outcome State Fault Refusal :=
  answer (if s.stc.state = .config then s.transactionEnds miso else s)

/-! ### The STC evaluation (R156) -/

/-- The warn hold falls by 1 in the states in which it runs (R173). -/
def State.warnCountdown (s : State) : State :=
  if operating s.stc.state then s.setStc { s.stc with warnHold := s.stc.warnHold - 1 } else s

/-- LISTEN: the listen count, and at LISTEN_PERIODS the exit by the standing (R160). -/
def State.listenWork (s : State) : State :=
  let s1 := s.setStc { s.stc with listenCount := s.stc.listenCount + 1 }
  if s.cfg.shared.listenPeriods ≤ s.stc.listenCount + 1 then
    if s.standing = .silent then s1.enterLocal else s1.enterActive
  else s1

/-- The ignition-off count after a sample (R166). -/
def ignOffNext (ign : Bool) (count : Nat) : Nat := if ign then 0 else min 255 (count + 1)

/-- ACTIVE and LOCAL: the ignition sample, and at PARK_DELAY the way to park (R166, R167). -/
def State.ignitionWork (s : State) : State :=
  let count := ignOffNext s.inp.ign s.stc.ignOffCount
  let s1 := s.setStc { s.stc with ignOffCount := count }
  if parkDelayUsed s.cfg ≤ count then
    if s.stc.state = .active then s1.enterLeaving else s1.enterParked
  else s1

/-- The most STC evaluations that LEAVING lasts (R168). -/
def leaveLimit : Nat := 10

/-- LEAVING: the leave count (R168). -/
def State.leavingWork (s : State) : State :=
  let s1 := s.setStc { s.stc with leaveCount := s.stc.leaveCount + 1 }
  if leaveLimit ≤ s.stc.leaveCount + 1 then s1.enterParked else s1

/-- PARKED: an ignition found on wakes the station (R169). -/
def State.parkedWork (s : State) : State := if s.inp.ign then s.wake else s

/-- STC's per-state work at its evaluation expiry. -/
def State.stationWork (s : State) : State :=
  match s.stc.state with
  | .config | .fault => s
  | .listen => s.listenWork
  | .active | .localOnly => s.ignitionWork
  | .leaving => s.leavingWork
  | .parked => s.parkedWork

/-- STC_EVALUATION_EXPIRY (R156, R173). -/
def execStcEvaluationExpiry (ign : Bool) (s : State) : Host.Outcome State Fault Refusal :=
  answer (s.latchIgn ign).warnCountdown.stationWork

/-! ### The park timer (R169) -/

/-- PARK_TIMER_TICK: in PARKED one more second, saturating at 65535. -/
def execParkTimerTick (s : State) : Host.Outcome State Fault Refusal :=
  answer
    (if s.stc.state = .parked then s.setStc { s.stc with parkTimer := min 65535 (s.stc.parkTimer + 1) } else s)

end Sys2Proof.Machine
end

