-- ==== Sys2Proof/Machine/Dispatch.lean ====
section
/-! DEFINITION. The meaning of every command, one arm for each row of spec/opcode_table.json. -/

namespace Sys2Proof.Machine

def exec (i : Instr) (s : State) : Host.Outcome State Fault Refusal :=
  match i with
  | .powerOn => Sys2Proof.Machine.execPowerOn s
  | .resetn => Sys2Proof.Machine.execResetn s
  | .configurationRead straps => Sys2Proof.Machine.execConfigurationRead straps s
  | .spiTransactionEnd miso => Sys2Proof.Machine.execSpiTransactionEnd miso s
  | .peEvaluationExpiry => Sys2Proof.Machine.execPeEvaluationExpiry s
  | .duEvaluationExpiry pa pb stk => Sys2Proof.Machine.execDuEvaluationExpiry pa pb stk s
  | .ageExpiry => Sys2Proof.Machine.execAgeExpiry s
  | .sinkExpiry fb temp pos => Sys2Proof.Machine.execSinkExpiry fb temp pos s
  | .thermalExpiry => Sys2Proof.Machine.execThermalExpiry s
  | .amEvaluationExpiry => Sys2Proof.Machine.execAmEvaluationExpiry s
  | .standingExpiry => Sys2Proof.Machine.execStandingExpiry s
  | .demandExpiry => Sys2Proof.Machine.execDemandExpiry s
  | .stcEvaluationExpiry ign => Sys2Proof.Machine.execStcEvaluationExpiry ign s
  | .parkTimerTick => Sys2Proof.Machine.execParkTimerTick s
  | .engPulse => Sys2Proof.Machine.execEngPulse s
  | .wheelPulse => Sys2Proof.Machine.execWheelPulse s
  | .lineFreePoint quiet => Sys2Proof.Machine.execLineFreePoint quiet s
  | .accessWaitEnd elapsed => Sys2Proof.Machine.execAccessWaitEnd elapsed s
  | .characterReadBack read ign => Sys2Proof.Machine.execCharacterReadBack read ign s
  | .characterReceived ch => Sys2Proof.Machine.execCharacterReceived ch s
  | .startBit => Sys2Proof.Machine.execStartBit s

end Sys2Proof.Machine
end

