-- ==== Sys2Proof/Safety.lean ====
section
/-! DEFINITION. What a safe run is: the properties of the whole part that the manual states in its prose, each as a predicate over
State that every command keeps. A run is safe while all of them hold; no command ends in a fault or a refusal. -/

namespace Sys2Proof.Machine

/-! ### Words for the station's situation -/

/-- A configuration has been put in force since power-on: not in CONFIG, and not in FAULT for the configuration (R158). -/
def configured (s : State) : Prop :=
  s.stc.state ≠ .config ∧ ¬(s.stc.state = .fault ∧ s.stc.cause = .config)

/-- CONFIG, PARKED and FAULT: the states in which the part neither hears nor speaks nor brakes (R156). -/
def quiet (s : State) : Prop := operating s.stc.state = false

/-! ### The pins -/

/-- Every output pin shows what the blocks hold (R145, R148, R172, R174, R176; R90 for DE and TXD). -/
def PinsFollow (s : State) : Prop := s.out = outputsOf s

/-! ### The line -/

/-- Code and subject of an alert. -/
def alertKey (a : Alert) : BitVec 8 × BitVec 8 := (a.code, a.subject)

/-- The alert queue: at most 4 entries, no two with the same code and subject (R84); empty outside LISTEN and ACTIVE (R85);
in ACTIVE an EMPTY urgent slot leaves nothing in it (R86). -/
def AlertQueueLegal (s : State) : Prop :=
  s.stx.queue.length ≤ 4 ∧ (s.stx.queue.map alertKey).Nodup
    ∧ (alertsTaken s.stc.state = false → s.stx.queue = [])
    ∧ (s.stc.state = .active → s.stx.urgent = .empty → s.stx.queue = [])

/-- What a slot and the frame under way have to do with each other: the slot of the frame's class is SENDING its statement
under the number in the frame, and no other slot is SENDING (R81, R83, R90). -/
def slotMatches (id : Ident) (tx : Option TxFrame) (cls : SlotClass) (slot : Slot) : Prop :=
  match slot with
  | .empty => ∀ f, tx = some f → f.cls ≠ cls
  | .pending h => (∀ f, tx = some f → f.cls ≠ cls) ∧ h.failed ≤ 2
  | .sending h _ _ =>
    h.failed ≤ 2 ∧ ∃ f n, tx = some f ∧ f.cls = cls ∧ h.seq = some n ∧ f.bytes = frameOf id n h.stmt
      ∧ f.idx < f.bytes.length

/-- One frame at a time, and it is the frame of the slot that is SENDING (R81, R83, R90); none in CONFIG, PARKED and FAULT
(R101). -/
def OneFrame (s : State) : Prop :=
  (∀ cls, slotMatches s.stc.id s.lp.tx cls (slotOf s.stx cls)) ∧ (quiet s → s.lp.tx = none)

/-- The trouble count and the recovery counter stay in their ranges (R98, R100); a station in ACTIVE is not SILENT and one in
LOCAL is (R160, R162). -/
def StandingLegal (s : State) : Prop :=
  s.lp.trouble ≤ 255 ∧ s.lp.recovery < 128
    ∧ (s.stc.state = .active → s.standing ≠ .silent) ∧ (s.stc.state = .localOnly → s.standing = .silent)

/-- A frame being received is shorter than the length its header fixes (R77, R94). -/
def ReceiverLegal (s : State) : Prop :=
  ∀ f, s.lp.rx = .inFrame f →
    f.bytes.length < f.expected ∧ f.bytes ≠ [] ∧ headerLength (byteAt f.bytes 0) = some f.expected

/-! ### The table -/

/-- A record that the rules can have made: FRESH and STALE records carry the own profile code and a MISMATCH record another
(R58); LEFT and MISMATCH records hold no demand part and no alert part (R58, R69); the role part is that of the role (R53). -/
def RecordLegal (own : Half) (r : PeerRecord) : Prop :=
  (r.state = .fresh ∨ r.state = .stale → r.profile = own)
    ∧ (r.state = .mismatch → r.profile ≠ own)
    ∧ (r.state = .left ∨ r.state = .mismatch → r.demand = none ∧ r.alert = none)
    ∧ (r.axle.isSome ↔ r.role = .axle) ∧ (r.exhaust.isSome ↔ r.role = .exhaust)
    ∧ r.age ≤ 255

/-- The peer table: the own slot is EMPTY (R51), every record is legal, and the table is empty in CONFIG, PARKED and FAULT
(R74). -/
def TableLegal (s : State) : Prop :=
  slotGet s.pt s.stc.id = none
    ∧ (∀ i r, slotGet s.pt i = some r → RecordLegal s.cfg.profile r)
    ∧ (quiet s → s.pt = PeerTable.empty)

/-! ### The quiet states -/

/-- In CONFIG, PARKED and FAULT nothing is sent, held to be sent or received, no plan and no demand stands (R33, R50, R101). -/
def QuietLegal (s : State) : Prop :=
  quiet s →
    s.lp.tx = none ∧ s.lp.rx = .disarmed
      ∧ s.stx.urgent = .empty ∧ s.stx.demand = .empty ∧ s.stx.standing = .empty ∧ s.stx.queue = []
      ∧ s.pe = Pe.idle ∧ s.du = duCleared s.du ∧ s.stc.warnHold = 0 ∧ s.stc.ignOffCount = 0

/-- Only ACTIVE has a plan and a shortfall state other than the idle ones (R33, R187). -/
def PlanLegal (s : State) : Prop := s.stc.state ≠ .active → s.pe = Pe.idle

/-- The fault cause is set exactly in FAULT (R165). -/
def CauseLegal (s : State) : Prop := s.stc.state = .fault ↔ s.stc.cause ≠ .none

/-! ### Demand -/

/-- DU's values keep their ranges; UNSOURCED means D = 0, and in LOCAL D is 0 (section 2.7, R50); a configured station that is
no demand source keeps its driver values clear (chapter 2, opening). -/
def DemandLegal (s : State) : Prop :=
  s.du.d ≤ 2047 ∧ s.du.own ≤ 2047 ∧ s.du.integral ≤ 2047 ∧ s.du.holdDemand ≤ 2047 ∧ s.du.stalk ≤ 5
    ∧ s.du.invalidCount ≤ 255
    ∧ (s.du.phase = .unsourced → s.du.d = 0)
    ∧ (s.stc.state = .localOnly → s.du.d = 0 ∧ s.du.phase = .unsourced)
    ∧ (s.stc.state = .config → s.du = Du.powerOn)
    ∧ (s.isSource = false → s.stc.state ≠ .config →
        s.du.pedal = .clear ∧ s.du.stalk = 0 ∧ s.du.hold = .off ∧ s.du.own = 0)

/-! ### The sink -/

/-- The command and the step in force are 0 outside ACTIVE and LOCAL and while the sink is DEGRADED (R142, R146). -/
def CommandLegal (s : State) : Prop :=
  (s.stc.state ≠ .active → s.stc.state ≠ .localOnly → s.sc.c = 0 ∧ s.sc.kNow = 0)
    ∧ (s.sc.degraded = true → s.sc.c = 0 ∧ s.sc.kNow = 0)

/-- In LOCAL only an AXLE demand source commands a force (R142, R144, R155). -/
def LocalCommandLegal (s : State) : Prop :=
  s.stc.state = .localOnly → ¬(s.role = .axle ∧ s.isSource = true) → s.sc.c = 0 ∧ s.sc.kNow = 0

/-- The sink state and its cause go together (R151, R153). -/
def DegradedLegal (s : State) : Prop := s.sc.degraded = true ↔ s.sc.cause ≠ .none

/-! ### The configuration in force -/

/-- What the checks of R180 and the width of the fields (R178) say of the configuration in force, as the blocks rely on it. -/
def ConfigLegal (s : State) : Prop :=
  configured s →
    sharedOk s.cfg.shared = true ∧ localOk s.cfg.loc = true ∧ s.cfg.loc.powerOnTemp ≤ 65535 ∧ s.cfg.loc.coolGain ≤ 65535

/-- The advertised capacity never exceeds KMAX, and is 0 while DEGRADED, while the temperature-hold flag is set, and without a
temperature code (R107). -/
def CapacityLegal (s : State) : Prop :=
  ConfigLegal s ∧ s.cu.capacity ≤ s.cfg.loc.kmax
    ∧ (s.sc.degraded = true ∨ s.sc.tempHold = true ∨ s.cu.code = none → s.cu.capacity = 0)

/-- The estimate of a configured AXLE station stays between the ambient reference and the largest code and its fraction
(R113). -/
def EstimateLegal (s : State) : Prop :=
  ConfigLegal s ∧ (configured s → s.role = .axle → thetaAmb s.cfg ≤ s.te.theta ∧ s.te.theta ≤ thetaMax)

/-- The adhesion limit of a configured AXLE station stays between L_FLOOR and L_MAX (R131), at L_FLOOR while the speed-fault
flag is set (R128), which is clear in CONFIG (R135). -/
def AdhesionLegal (s : State) : Prop :=
  ConfigLegal s
    ∧ (s.stc.state = .config → s.am.faultFlag = false)
    ∧ (configured s → s.role = .axle →
        s.cfg.loc.lFloor ≤ s.am.limit ∧ s.am.limit ≤ s.cfg.loc.lMax
          ∧ (s.am.faultFlag = true → s.am.limit = s.cfg.loc.lFloor))

/-- Vref and the wheel speed keep their ranges, and Vref is 0 while unavailable (chapter 6, R125). -/
def SpeedLegal (s : State) : Prop :=
  s.am.vref ≤ 511 ∧ s.am.w ≤ 511 ∧ (s.am.vrefState = .unavailable → s.am.vref = 0)

/-! ### A safe state and a safe run -/

/-- Everything above. -/
structure Safe (s : State) : Prop where
  pins : PinsFollow s
  alerts : AlertQueueLegal s
  frame : OneFrame s
  standing : StandingLegal s
  receiver : ReceiverLegal s
  table : TableLegal s
  quiet : QuietLegal s
  plan : PlanLegal s
  cause : CauseLegal s
  demand : DemandLegal s
  command : CommandLegal s
  localCommand : LocalCommandLegal s
  degraded : DegradedLegal s
  capacity : CapacityLegal s
  estimate : EstimateLegal s
  adhesion : AdhesionLegal s
  speed : SpeedLegal s

/-- The state after commands taken one after another, where none stops. -/
def runCommands : List Instr → State → Option State
  | [], s => some s
  | c :: rest, s =>
    match exec c s with
    | .next t => runCommands rest t
    | .fault _ => none
    | .refused _ => none

/-! ### Words for the statements -/

/-- The access origin from one state to the next in which no line event falls (R88): set when a slot becomes PENDING on a FREE line
with nothing PENDING before and nothing being sent, and kept otherwise. -/
def OriginFollows (s t : State) : Prop :=
  t.lp.origin =
    if s.lp.line = .free ∧ s.lp.tx = none ∧ anyPending s.stx = false ∧ anyPending t.stx = true then .slotPending
    else s.lp.origin

/-- The members of a list with an identity below that of one of them: those that come before it in ascending identity. -/
def membersBelow (ms : List Member) (m : Member) : List Member := ms.filter fun x => x.id < m.id

/-- What a peer's statement does on arrival, from the state before its last character to the one after (R56, R65, R97, R173): it
arrives at the slot of its identity and at no other; an ALERT of code 1, 4 or 6 sets the warn hold; entry to MISMATCH offers
PROFILE_MISMATCH in the station state that stands after the event, and nothing else touches STX. -/
def StatementArrives (s t : State) (id : Ident) (seq : BitVec 8) (stmt : Statement) : Prop :=
  let warns : Prop := ∃ a, stmt = .alert a ∧ (a.code = 1 ∨ a.code = 4 ∨ a.code = 6)
  slotGet t.pt id = arriveAt s.cfg.profile stmt seq (slotGet s.pt id)
    ∧ (∀ j, j ≠ id → slotGet t.pt j = slotGet s.pt j)
    ∧ (warns → t.stc.warnHold = s.cfg.shared.warnHold)
    ∧ (¬warns → t.stc.warnHold = s.stc.warnHold)
    ∧ (∀ r, slotGet t.pt id = some r → r.state = .mismatch → inMismatch (slotGet s.pt id) = false →
        t.stx
          = (State.offerAlert { code := 3, subject := BitVec.ofNat 8 id.val, detail := r.profile }
              { s with stc := { s.stc with state := t.stc.state } }).stx)
    ∧ ((∀ r, slotGet t.pt id = some r → r.state = .mismatch → inMismatch (slotGet s.pt id) = true) → t.stx = s.stx)

/-! ### The layout of R178 and the table of R180, over the bytes of the memory -/

/-- The byte of the memory at an address, as a number: the shared block holds 0 to 47, the local block 64 to 191 (R176). -/
def memByte (sb lb : List Byte) (m : Nat) : Nat := if m < 64 then natAt sb m else natAt lb (m - 64)

/-- The two-byte field at an address, high byte first (R178). -/
def memField (sb lb : List Byte) (m : Nat) : Nat := memByte sb lb m * 256 + memByte sb lb (m + 1)

/-- The curve whose point 0 stands at an address, each x before its f (R178). -/
def curveInMemory (sb lb : List Byte) (at0 : Nat) : Curve :=
  let p (i : Nat) : CurvePoint := { x := memField sb lb (at0 + 4 * i), f := memField sb lb (at0 + 4 * i + 2) }
  { p0 := p 0, p1 := p 1, p2 := p 2, p3 := p 3, p4 := p 4, p5 := p 5 }

/-- The settings the two blocks hold, by the byte addresses of R178; TEMP_OFFSET alone is signed, and the role and the two flags
are bits of byte 64. -/
def configInMemory (sb lb : List Byte) (profile : Half) : Cfg :=
  let b := memByte sb lb
  let w := memField sb lb
  { profile := profile
    shared :=
      { lineRate := b 0, staleAge := b 1, absentAge := b 2, demandAge := b 3, demandHold := b 4, listenPeriods := b 5
        slipRatio := b 6, shortPeriods := b 7, vrefHold := b 8, warnHold := b 9, parkDelay := b 10, demandRamp := w 12
        contFallback := w 14, slipMinSpeed := w 16, shortMin := w 18 }
    loc :=
      { roleCode := b 64 % 4, driveFlag := b 64 / 4 % 2 = 1, demandSource := b 64 / 8 % 2 = 1, n := b 65, weight := b 66
        stepHold := b 67, kmax := w 68, lMax := w 70, lFloor := w 72, lRise := w 74, riseWait := b 76, sensorHold := b 77
        slewUp := w 78, supTol := w 80, supPeriods := b 82, stalkHold := b 83, tempCurve := curveInMemory sb lb 84
        speedCurve := curveInMemory sb lb 108, guardOn := w 132, guardOff := w 134, guardFrac := w 136, heatGain := w 138
        coolGain := w 140, ambient := w 142, powerOnTemp := w 144, coldTime := w 146, fbZero := w 148, fbGain := w 150
        tempOffset := if w 152 < 32768 then w 152 else (w 152 : Int) - 65536, tempScale := w 154, wheelScale := w 156
        pedalDead := w 158, pedalGain := w 160, pedalDiff := w 162, stalkLevel1 := w 164, stalkLevel2 := w 166
        stalkLevel3 := w 168, stalkLevel4 := w 170, kp := b 172, ki := b 173 } }

/-- The checks on one curve whose point 0 stands at an address: each x above the one before, and every f at most 256. -/
def CurveChecks (sb lb : List Byte) (at0 : Nat) : Prop :=
  (∀ i, i < 5 → memField sb lb (at0 + 4 * i) < memField sb lb (at0 + 4 * (i + 1)))
    ∧ ∀ i, i < 6 → memField sb lb (at0 + 4 * i + 2) ≤ 256

/-- The rows of R180's table, in order, by the byte addresses of R178. -/
def MemoryChecks (sb lb : List Byte) : Prop :=
  let b := memByte sb lb
  let w := memField sb lb
  let role := b 64 % 4
  b 0 ≤ 2
    ∧ (2 ≤ b 1 ∧ b 1 ≤ 10) ∧ (10 ≤ b 2 ∧ b 2 ≤ 200) ∧ b 1 < b 2 ∧ b 1 < b 5
    ∧ (b 11 = 0 ∧ ∀ i, 20 ≤ i → i ≤ 45 → b i = 0)
    ∧ role ≤ 2
    ∧ (role = 2 → 1 ≤ b 66 ∧ b 66 ≤ 100)
    ∧ (role = 0 → 1 ≤ b 65 ∧ b 65 ≤ 7)
    ∧ CurveChecks sb lb 84 ∧ CurveChecks sb lb 108
    ∧ (∀ i, i < 5 → w (84 + 4 * (i + 1) + 2) ≤ w (84 + 4 * i + 2))
    ∧ w 134 < w 132
    ∧ w 68 ≤ 2047
    ∧ (w 72 ≤ w 70 ∧ w 70 ≤ 2047)
    ∧ w 142 ≤ w 144
    ∧ 1 ≤ w 150
    ∧ 1 ≤ w 146

end Sys2Proof.Machine
end

