-- ==== Sys2Proof/Certificates/Slice0/Obligations.lean ====
section
/-! DEFINITION. The statements for the provers, chapter by chapter. In each, `t` is the state a command answers with; a frame is
written as `t = { s with … }`, naming every part of the state that may differ from `s`. OBLIGATIONS.json says of each which rules
it states or rests on; a clause that rests on a choice of the model names its log entry. -/

open Sys2Proof Sys2Proof.Machine

/-! ### The machine -/

/-- A step takes the command at the front of the queue and runs it with the queue's rest; with nothing waiting the part idles.
The queue and the idling are the model's (logs 3 and 19). -/
def Obligations.StepTakesTheFrontCommand : Prop :=
  (∀ (s : State) (c : Instr) (rest : List Instr), s.pending = c :: rest → step s = exec c { s with pending := rest })
    ∧ ∀ s : State, s.pending = [] → step s = .next s

/-- Every command, with any operands in any state, answers with a next state; it leaves the waiting commands alone, and the
output pins are those of the blocks (R145, R148, R172, R174, R176). The second part says the same of steps. -/
def Obligations.EveryCommandAnswers : Prop :=
  (∀ (i : Instr) (s : State), ∃ t, exec i s = .next t ∧ t.pending = s.pending ∧ PinsFollow t)
    ∧ ∀ s : State, PinsFollow s → ∃ t, step s = .next t ∧ PinsFollow t

/-- Reset is power-on: CONFIG, every block at the values the manual gives for power-on, and the pins of CONFIG (R157, R175 and
the entry tables). Fields the manual gives no reset value (logs 8, 9 and 10) are not spoken of. -/
def Obligations.ResetIsPowerOn : Prop :=
  let s := State.reset
  (s.stc.state = .config ∧ s.stc.cause = .none ∧ s.stc.listenCount = 0 ∧ s.stc.ignOffCount = 0 ∧ s.stc.leaveCount = 0
      ∧ s.stc.parkTimer = 0 ∧ s.stc.warnHold = 0 ∧ s.loader.phase = .idle)
    ∧ (∀ j, slotGet s.pt j = none)
    ∧ (s.stx.urgent = .empty ∧ s.stx.demand = .empty ∧ s.stx.standing = .empty ∧ s.stx.queue = [] ∧ s.stx.seq = 0)
    ∧ (s.lp.tx = none ∧ s.lp.rx = .disarmed ∧ s.lp.trouble = 0 ∧ s.lp.recovery = 0)
    ∧ s.pe = { plan := { share := 0, step := 0, ownDrive := false, t1 := 0, t2 := 0, s := 0 }, shortfall := false, run := 0 }
    ∧ s.du = { pedal := .clear, stalk := 0, invalidCount := 0, hold := .off, target := 0, integral := 0, holdDemand := 0
               own := 0, d := 0, phase := .unsourced, lossCount := 0 }
    ∧ (s.cu.code = none ∧ s.cu.engSpeed = 0 ∧ s.cu.guarded = false ∧ s.cu.capacity = 0)
    ∧ (s.am.w = 0 ∧ s.am.pulses = 0 ∧ s.am.vref = 0 ∧ s.am.vrefState = .unavailable ∧ s.am.vrefHold = 0
      ∧ s.am.spacing = 255 ∧ s.am.rise = 0 ∧ s.am.faultCount = 0 ∧ s.am.faultFlag = false)
    ∧ s.sc = { c := 0, kNow := 0, riseHold := 0, take := 0, degraded := false, cause := .none, supCount := 0
               tempHoldCount := 0, tempHold := false }
    ∧ s.out = { drive := 0, exs := 0, de := false, txd := none, csn := true, mosi := [], warn := false, fault := true }
    ∧ s.pending = []

/-- The reset state is a safe one. -/
def Obligations.ResetIsSafe : Prop := Safe State.reset

/-! ### Power-on and the configuration (chapters 8 and 9) -/

/-- POWER_ON and a low RESETn put every block at its power-on values from any state (R157); the levels presented at the input
pins and the waiting commands are not the part's, and RESETN leaves RESETn low; values the manual does not give are again those of
State.reset, the model's choice (logs 8, 9 and 10). CONFIGURATION_READ in CONFIG with no read in
progress then samples the straps as the own identity and starts the transaction of the shared block: CSn low, 03 and address 0
sent (R157, R176). In another state, or with a read in progress, it changes no more than the input levels presented (log 25). -/
def Obligations.ConfigIsEnteredAndTheReadStarts : Prop :=
  (∀ s : State,
    exec .powerOn s = .next { State.reset with inp := s.inp, pending := s.pending }
      ∧ exec .resetn s = .next { State.reset with inp := { s.inp with resetn := false }, pending := s.pending })
    ∧ (∀ (s : State) (straps : BitVec 3), s.stc.state = .config → s.loader.phase = .idle →
      ∃ t, exec (.configurationRead straps) s = .next t
        ∧ t = { s with
            stc := { s.stc with id := straps.toFin }
            loader := { phase := .sharedBlock, firstFailed := false, sharedBytes := [], profile := 0 }
            inp := { s.inp with straps := straps, resetn := true }
            out := outputsOf t }
        ∧ t.out.csn = false ∧ t.out.mosi = [0x03, 0x00])
    ∧ ∀ (s : State) (straps : BitVec 3), ¬(s.stc.state = .config ∧ s.loader.phase = .idle) →
      exec (.configurationRead straps) s
        = .next { s with inp := { s.inp with straps := straps, resetn := true }, out := outputsOf s }

/-- The end of a transaction (R177, R179): a shared block whose CRC matches is accepted, its CRC is the profile code, and the
local transaction starts (03 and address 64; one event, log 14); a block whose CRC differs is read once more; the second failure
makes the configuration invalid: FAULT with cause CONFIG, FAULT lit and WARN released. That the loader then has no read in
progress is the model's choice (log 28). -/
def Obligations.LoaderReadsTheBlocks : Prop :=
  (∀ (s : State) (miso : List Byte), s.stc.state = .config → s.loader.phase = .sharedBlock → miso.length = 48 →
    crc (miso.take 46) = halfAt miso 46 →
    ∃ t, exec (.spiTransactionEnd miso) s = .next t
      ∧ t = { s with
          loader := { phase := .localBlock, firstFailed := false, sharedBytes := miso, profile := crc (miso.take 46) }
          out := outputsOf t }
      ∧ t.out.csn = false ∧ t.out.mosi = [0x03, 0x40])
    ∧ ∀ (s : State) (miso : List Byte) (n : Nat), s.stc.state = .config →
      (s.loader.phase = .sharedBlock ∧ n = 48 ∨ s.loader.phase = .localBlock ∧ n = 128) → miso.length = n →
      crc (miso.take (n - 2)) ≠ halfAt miso (n - 2) →
      ∃ t, exec (.spiTransactionEnd miso) s = .next t
        ∧ (s.loader.firstFailed = false →
            t = { s with loader := { s.loader with firstFailed := true }, out := outputsOf t })
        ∧ (s.loader.firstFailed = true →
            t.stc.state = .fault ∧ t.stc.cause = .config ∧ t.loader.phase = .idle ∧ t.cfg = s.cfg
              ∧ t.out.fault = true ∧ t.out.warn = false ∧ t.out.csn = true)

/-- With the local block accepted, the loader applies the checks of R180 to the bytes of both blocks. If every check passes the
station enters LISTEN; if any fails it enters FAULT with cause CONFIG, FAULT lit, WARN released and nothing on the line. -/
def Obligations.ConfigurationChecks : Prop :=
  ∀ (s : State) (lb : List Byte), s.stc.state = .config → s.loader.phase = .localBlock →
    s.loader.sharedBytes.length = 48 → lb.length = 128 → crc (lb.take 126) = halfAt lb 126 →
    ∃ t, exec (.spiTransactionEnd lb) s = .next t
      ∧ (MemoryChecks s.loader.sharedBytes lb → t.stc.state = .listen ∧ t.stc.cause = s.stc.cause)
      ∧ (¬MemoryChecks s.loader.sharedBytes lb →
          t.stc.state = .fault ∧ t.stc.cause = .config ∧ t.out.fault = true ∧ t.out.warn = false
            ∧ t.out.de = false ∧ t.out.txd = none)

/-- A valid configuration is put in force in one event (R158): every setting as the two blocks hold it at the addresses of R178,
and the profile code; an AXLE station's estimate at POWER_ON_TEMP, its code in force and compared with the guard thresholds, and L
at L_MAX (R119, R121, R135); a continuous role without a temperature code; C formed from these (R107); the command at 0; then
LISTEN with its counts at 0, the line BUSY and the receiver disarmed (R159, R101). Another role's estimate is left as it was,
which is the model's choice (log 22). That the loader then has no read in progress is the model's choice too (log 28). -/
def Obligations.ValidConfigurationIsPutInForce : Prop :=
  ∀ (s : State) (lb : List Byte), s.stc.state = .config → s.loader.phase = .localBlock →
    s.loader.sharedBytes.length = 48 → lb.length = 128 → crc (lb.take 126) = halfAt lb 126 →
    MemoryChecks s.loader.sharedBytes lb →
    ∃ t, exec (.spiTransactionEnd lb) s = .next t
      ∧ t = { s with
          cfg := configInMemory s.loader.sharedBytes lb s.loader.profile
          loader := t.loader
          stc := { s.stc with state := .listen, listenCount := 0, ignOffCount := 0 }
          lp := { s.lp with line := .busy, rx := .disarmed }
          pe := { plan := { share := 0, step := 0, ownDrive := false, t1 := 0, t2 := 0, s := 0 }
                  shortfall := false, run := 0 }
          sc := { s.sc with c := 0, kNow := 0, riseHold := 0, supCount := 0 }
          cu := t.cu, te := t.te, am := { s.am with limit := t.am.limit }, out := outputsOf t }
      ∧ t.loader.phase = .idle
      ∧ t.cu = cuForm t.cfg t.am t.sc
          { s.cu with
            code := if t.role = .axle then some t.cfg.loc.powerOnTemp else none, guarded := t.cu.guarded
            engSpeed := 0, engPulses := 0, engOpen := false }
      ∧ (t.role = .axle →
          t.te.theta = t.cfg.loc.powerOnTemp * 2 ^ 20 ∧ t.am.limit = t.cfg.loc.lMax
            ∧ (s.cu.guarded = false → (t.cu.guarded = true ↔ t.cfg.loc.guardOn ≤ t.cfg.loc.powerOnTemp))
            ∧ (s.cu.guarded = true → (t.cu.guarded = true ↔ t.cfg.loc.guardOff ≤ t.cfg.loc.powerOnTemp)))
      ∧ (t.role ≠ .axle → t.te = s.te ∧ t.cu.guarded = s.cu.guarded ∧ t.cu.capacity = 0)

/-! ### The plan (chapters 1 and 10) -/

/-- The plan set (R3 to R6, R8): the own station and every peer whose record is FRESH, in ascending identity, with the values
the plan counts for each. -/
def Obligations.PlanSetMembers : Prop :=
  ∀ s : State,
    let ms := planSet s
    (1 ≤ ms.length ∧ ms.length ≤ 8 ∧ (ms.map (·.id)).Pairwise (· < ·))
      ∧ (∀ j, (∃ m ∈ ms, m.id = j) ↔ j = s.stc.id ∨ ∃ r, slotGet s.pt j = some r ∧ r.state = .fresh)
      ∧ (∀ j r, j ≠ s.stc.id → slotGet s.pt j = some r → r.state = .fresh →
          ∃ m ∈ ms, m.id = j ∧ m.role = r.role ∧ m.take = min r.take.toNat 2047
            ∧ m.capacity = (if degradedPending r then 0 else min r.capacity.toNat 2047)
            ∧ (r.role = .axle → m.drive = r.drive)
            ∧ (∀ a, r.axle = some a →
                m.limit = min a.limit.toNat 2047 ∧ m.weight = max 1 (min a.weight.toNat 100))
            ∧ ∀ e, r.exhaust = some e → m.n = min e.n.toNat 7)
      ∧ ∃ m ∈ ms, m.id = s.stc.id ∧ m.role = s.role ∧ m.drive = cfgDrive s.cfg
          ∧ m.capacity = min s.cu.capacity 2047 ∧ m.take = min s.sc.take 2047 ∧ m.limit = min s.am.limit 2047
          ∧ m.weight = max 1 (min s.cfg.loc.weight 100) ∧ m.n = min s.cfg.loc.n 7

/-- The drive axle is the AXLE member with the drive flag that has the lowest identity, and the limit A is its L, or
CONT_FALLBACK without one; every other AXLE member has the headroom of a plain axle (R9, R10, R19). -/
def Obligations.DriveAxleIsTheLowestClaimant : Prop :=
  ∀ s : State,
    let ms := planSet s
    let p := computePlan s
    (∀ d, driveAxle ms = some d →
        d ∈ ms ∧ d.role = .axle ∧ d.drive = true ∧ (∀ m ∈ ms, m.role = .axle → m.drive = true → d.id ≤ m.id)
          ∧ p.drive = some d.id ∧ p.limit = d.limit
          ∧ headroom (some d) p.t1 p.t2 d = min d.capacity (d.limit - p.t1 - p.t2)
          ∧ ∀ m ∈ ms, m.role = .axle → m.id ≠ d.id → headroom (some d) p.t1 p.t2 m = min m.capacity m.limit)
      ∧ (driveAxle ms = none →
          (∀ m ∈ ms, m.role = .axle → m.drive = false) ∧ p.drive = none
            ∧ p.limit = min s.cfg.shared.contFallback 2047
            ∧ ∀ m ∈ ms, m.role = .axle → headroom none p.t1 p.t2 m = min m.capacity m.limit)

/-- In every plan each share is between 0 and the capacity counted for that member, the drive axle's share never exceeds the
drive room, and every stepped share is k × s with k ≤ n (R29). -/
def Obligations.PlanBounds : Prop :=
  ∀ s : State,
    let ms := planSet s
    let p := computePlan s
    (∀ m ∈ ms, planShare p m.id ≤ m.capacity)
      ∧ (∀ d, driveAxle ms = some d → planShare p d.id ≤ d.limit - p.t1 - p.t2)
      ∧ ∀ m ∈ ms, m.role = .exhaust →
          planStep p m.id ≤ m.n ∧ planShare p m.id = planStep p m.id * (m.capacity / m.n)

/-- In every plan the stepped shares sum to at most min(D, A), and the proportional shares to at most
B2 = min(max(0, min(D, A) - T1), Cq) (R30); where Cq is above 0 they sum to B2 (R16). -/
def Obligations.PlanLayerSums : Prop :=
  ∀ s : State,
    let p := computePlan s
    let cq := ((ofRole .retarder (planSet s)).map (·.capacity)).sum
    let b2 := min (min s.du.d p.limit - p.t1) cq
    (p.stepped.map (·.p)).sum ≤ min s.du.d p.limit
      ∧ (p.proportional.map (·.p)).sum ≤ b2 ∧ (0 < cq → (p.proportional.map (·.p)).sum = b2)

/-- The share of every member, layer by layer. Layer 1 (R11, R12): an EXHAUST member gets the whole steps that the budget left by
the lower identities covers. Layer 2 (R15, R16): a RETARDER member gets its part of B2 by capacity, and one unit of the remainder
while it lasts, in ascending identity, where its part is below its capacity. Layer 3: the grants by weight share with their
remainder (R21, R22), clamped to the headroom (R23); then the headroom for every member where the excess covers the open room
(R25), and else an addition by room with its remainder (R26, R27). -/
def Obligations.LayerShares : Prop :=
  ∀ s : State,
    let ms := planSet s
    let p := computePlan s
    let share (m : Member) : Nat := planShare p m.id
    let exhausts := ofRole .exhaust ms
    let retarders := ofRole .retarder ms
    let axles := ofRole .axle ms
    (p.t1 = (exhausts.map (·.take)).sum ∧ p.t2 = (retarders.map (·.take)).sum
        ∧ (latestOf s.stc.id p).step = planStep p s.stc.id)
      ∧ (∀ m ∈ exhausts,
          let step := m.capacity / m.n
          let budget := min s.du.d p.limit - ((membersBelow exhausts m).map share).sum
          planStep p m.id = (if step = 0 then 0 else min m.n (budget / step)) ∧ share m = planStep p m.id * step)
      ∧ (let cq := (retarders.map (·.capacity)).sum
        let b2 := min (min s.du.d p.limit - p.t1) cq
        let part (m : Member) : Nat := b2 * m.capacity / cq
        let rem := b2 - (retarders.map part).sum
        let eligible (m : Member) : Bool := part m < m.capacity
        (∀ m ∈ retarders, cq = 0 → share m = 0)
          ∧ (∀ m ∈ retarders, 0 < cq →
              share m ≤ m.capacity
                ∧ share m = part m
                  + if eligible m = true ∧ ((membersBelow retarders m).filter eligible).length < rem then 1 else 0)
          ∧ (0 < cq → (retarders.map share).sum = b2))
      ∧ (let r := s.du.d - p.t1 - p.t2
        let room (m : Member) : Nat := headroom (driveAxle ms) p.t1 p.t2 m
        let part (m : Member) : Nat := r * m.weight / (axles.map (·.weight)).sum
        let grant (m : Member) : Nat :=
          part m + if (membersBelow axles m).length < r - (axles.map part).sum then 1 else 0
        let first (m : Member) : Nat := min (grant m) (room m)
        let e := (axles.map fun m => grant m - first m).sum
        let hsum := (axles.map fun m => room m - first m).sum
        let add (m : Member) : Nat := e * (room m - first m) / hsum
        let rem := e - (axles.map add).sum
        let eligible (m : Member) : Bool := first m + add m < room m
        (axles ≠ [] → (axles.map grant).sum = r)
          ∧ (axles ≠ [] → hsum ≤ e → (∀ m ∈ axles, share m = room m) ∧ p.s = e - hsum)
          ∧ (axles ≠ [] → e < hsum →
              (∀ m ∈ axles,
                  share m = first m + add m
                    + if eligible m = true ∧ ((membersBelow axles m).filter eligible).length < rem then 1 else 0)
                ∧ (axles.map share).sum = r ∧ p.s = 0))

/-- The shortfall (R20, R28): with no AXLE member no share is assigned in layer 3 and S = R; with some, S is what the excess E
exceeds Hsum by, and 0 where it does not; in every plan the service shares plus S equal max(0, D - T1 - T2), S is at most 2047,
and in ACTIVE it is recorded in the latest plan and handed to the shortfall state. -/
def Obligations.ServiceSharesAndShortfall : Prop :=
  ∀ s : State,
    let p := computePlan s
    let axles := ofRole .axle (planSet s)
    let r := s.du.d - p.t1 - p.t2
    let granted := grants r (axles.map fun m =>
      { id := m.id, weight := m.weight, room := headroom (driveAxle (planSet s)) p.t1 p.t2 m, p := 0 })
    let e := (granted.map fun x => x.p - min x.p x.room).sum
    let hsum := (granted.map fun x => x.room - min x.p x.room).sum
    (p.service.map (·.p)).sum + p.s = r
      ∧ (axles = [] → p.service = [] ∧ p.s = r)
      ∧ (axles ≠ [] → hsum ≤ e → p.s = e - hsum) ∧ (axles ≠ [] → e < hsum → p.s = 0)
      ∧ (s.du.d ≤ 2047 → p.s ≤ 2047)
      ∧ (s.stc.state = .active →
          ∃ t, exec .peEvaluationExpiry s = .next t ∧ t.pe.plan.s = p.s
            ∧ (t.pe.shortfall, t.pe.run) = shortfallNext s.cfg p.s s.pe.shortfall s.pe.run)

/-- PE_EVALUATION_EXPIRY in ACTIVE: the new plan replaces the latest plan (R1, R31), with T1 and T2 the sums of the takes (R13,
R17); in any other state the latest plan keeps its value. Nothing changes but PE, and what an alert changes: STX, and the access
origin as R88 gives. -/
def Obligations.PlanReplacesTheLatestPlan : Prop :=
  (∀ s : State, s.stc.state = .active →
    let p := computePlan s
    ∃ t, exec .peEvaluationExpiry s = .next t
      ∧ t = { s with
          pe := t.pe, stx := t.stx, lp := { s.lp with origin := t.lp.origin }, out := outputsOf t }
      ∧ OriginFollows s t
      ∧ t.pe.plan.share = planShare p s.stc.id ∧ t.pe.plan.step = planStep p s.stc.id
      ∧ (t.pe.plan.ownDrive = true ↔ ∃ d, driveAxle (planSet s) = some d ∧ d.id = s.stc.id)
      ∧ t.pe.plan.t1 = ((planSet s).map fun m => if m.role = .exhaust then m.take else 0).sum
      ∧ t.pe.plan.t2 = ((planSet s).map fun m => if m.role = .retarder then m.take else 0).sum
      ∧ t.pe.plan.s = p.s)
    ∧ ∀ s : State, s.stc.state ≠ .active → exec .peEvaluationExpiry s = .next { s with out := outputsOf s }

/-- The shortfall state counts computed plans (R183, R184): SHORT_PERIODS consecutive plans on the far side of SHORT_MIN change
it. A demand source offers the SHORTFALL alert at the plan that turns the state on, and at no other (R185). -/
def Obligations.ShortfallStateCountsPlans : Prop :=
  ∀ s : State, s.stc.state = .active →
    let short := (computePlan s).s
    let low := min s.cfg.shared.shortMin 2047
    let turns := s.pe.run + 1 ≥ s.cfg.shared.shortPeriods
    ∃ t, exec .peEvaluationExpiry s = .next t
      ∧ (s.pe.shortfall = false → short ≤ low → t.pe.shortfall = false ∧ t.pe.run = 0 ∧ t.stx = s.stx)
      ∧ (s.pe.shortfall = false → low < short → ¬turns →
          t.pe.shortfall = false ∧ t.pe.run = s.pe.run + 1 ∧ t.stx = s.stx)
      ∧ (s.pe.shortfall = false → low < short → turns →
          t.pe.shortfall = true ∧ t.pe.run = 0
            ∧ t.stx = (if s.isSource then
                s.offerAlert { code := 1, subject := BitVec.ofNat 8 s.stc.id.val, detail := BitVec.ofNat 16 short }
              else s).stx)
      ∧ (s.pe.shortfall = true → low < short → t.pe.shortfall = true ∧ t.pe.run = 0 ∧ t.stx = s.stx)
      ∧ (s.pe.shortfall = true → short ≤ low → ¬turns →
          t.pe.shortfall = true ∧ t.pe.run = s.pe.run + 1 ∧ t.stx = s.stx)
      ∧ (s.pe.shortfall = true → short ≤ low → turns → t.pe.shortfall = false ∧ t.pe.run = 0 ∧ t.stx = s.stx)

/-! ### Demand (chapter 2) -/

/-- DU_EVALUATION_EXPIRY in LISTEN, ACTIVE and LOCAL touches DU alone, and what an alert touches: STX and the access origin (R34,
R88). On a demand source the effective stalk code follows R38 and R39, and the stalk demand is its level, at most 2047, for codes
1 to 4 and 0 for OFF and HOLD (R38, R181); the pedal condition R36, and d_own is the largest of the pedal demand (R35; 0 where
there is none), the stalk demand and the hold demand (R44). A change of the pedal condition to DISAGREE or BOTH_INVALID offers
PEDAL_DISAGREE (R37), and the first evaluation of a loss DEMAND_LOST (R47). In the other states it does nothing. -/
def Obligations.DemandEvaluation : Prop :=
  (∀ (s : State) (pa pb : BitVec 10) (stk : BitVec 3), demandRuns s.stc.state = true →
    let valid (r : BitVec 10) : Prop := 10 ≤ r.toNat ∧ r.toNat ≤ 1013
    let channel (r : BitVec 10) : Int :=
      max 0 (min 2047 (((r.toNat : Int) - min s.cfg.loc.pedalDead 1023) * s.cfg.loc.pedalGain / 256))
    let stalkDemand (code : Nat) : Nat :=
      if code = 1 then min s.cfg.loc.stalkLevel1 2047
      else if code = 2 then min s.cfg.loc.stalkLevel2 2047
      else if code = 3 then min s.cfg.loc.stalkLevel3 2047
      else if code = 4 then min s.cfg.loc.stalkLevel4 2047
      else 0
    ∃ t, exec (.duEvaluationExpiry pa pb stk) s = .next t
      ∧ t = { s with
          du := t.du, stx := t.stx, lp := { s.lp with origin := t.lp.origin }
          inp := { s.inp with pa := pa, pb := pb, stk := stk }, out := outputsOf t }
      ∧ OriginFollows s t
      ∧ t.stx = ((s.offer (if t.du.pedal = s.du.pedal ∨ t.du.pedal = .clear then none else some
            { code := 4, subject := BitVec.ofNat 8 s.stc.id.val, detail := if t.du.pedal = .disagree then 0 else 1 })).offer
          (if s.du.phase = .sourced ∧ t.du.phase = .holding then some
            { code := 6, subject := BitVec.ofNat 8 s.stc.id.val, detail := BitVec.ofNat 16 t.du.d } else none)).stx
      ∧ (s.isSource = true →
          (stk.toNat ≤ 5 → t.du.stalk = stk.toNat ∧ t.du.invalidCount = 0)
            ∧ (5 < stk.toNat →
                t.du.invalidCount = min 255 (s.du.invalidCount + 1)
                  ∧ t.du.stalk = if s.du.invalidCount + 1 ≤ s.cfg.loc.stalkHold then s.du.stalk else 0)
            ∧ (¬valid pa → ¬valid pb → t.du.pedal = .bothInvalid)
            ∧ ((valid pa ↔ ¬valid pb) → t.du.pedal = .clear)
            ∧ (valid pa → valid pb →
                (t.du.pedal = .disagree
                    ↔ (min s.cfg.loc.pedalDiff 1023 : Int) < |(pa.toNat : Int) - (pb.toNat : Int)|)
                  ∧ t.du.pedal ≠ .bothInvalid)
            ∧ (∀ demand : Int,
                (valid pa → valid pb → demand = max (channel pa) (channel pb)) → (valid pa → ¬valid pb → demand = channel pa) →
                (¬valid pa → valid pb → demand = channel pb) → (¬valid pa → ¬valid pb → demand = 0) →
                (t.du.own : Int) = max demand (max (stalkDemand t.du.stalk) t.du.holdDemand))))
    ∧ ∀ (s : State) (pa pb : BitVec 10) (stk : BitVec 3), demandRuns s.stc.state = false →
      exec (.duEvaluationExpiry pa pb stk) s
        = .next { s with inp := { s.inp with pa := pa, pb := pb, stk := stk }, out := outputsOf s }

/-- The speed hold of a demand source (R40 to R43), by the effective stalk code `t.du.stalk` of this evaluation: an entry latches
Vref and min(2047, D), or waits for Vref; HOLDING moves the integral, a rise being barred by a shortfall, and forms the hold
demand; any other code leaves the hold. -/
def Obligations.SpeedHold : Prop :=
  ∀ (s : State) (pa pb : BitVec 10) (stk : BitVec 3), demandRuns s.stc.state = true → s.isSource = true →
    let available : Prop := s.am.vrefState ≠ .unavailable
    let entering : Prop := s.du.hold = .pending ∨ s.du.hold = .off ∧ s.du.stalk ≠ 5
    let e : Int := (s.am.vref : Int) - s.du.target
    let rise : Int := e * s.cfg.loc.ki / 64
    let barred : Prop := 0 < rise ∧ (0 < s.pe.plan.s ∨ s.pe.shortfall = true)
    ∃ t, exec (.duEvaluationExpiry pa pb stk) s = .next t
      ∧ (t.du.stalk ≠ 5 →
          t.du.hold = .off ∧ t.du.holdDemand = 0 ∧ t.du.target = s.du.target ∧ (s.du.hold ≠ .off → t.du.integral = 0))
      ∧ (t.du.stalk = 5 → entering → available →
          t.du.hold = .holding ∧ t.du.target = s.am.vref ∧ t.du.integral = min 2047 s.du.d
            ∧ t.du.holdDemand = t.du.integral)
      ∧ (t.du.stalk = 5 → entering → ¬available →
          t.du.hold = .pending ∧ t.du.target = s.du.target ∧ t.du.integral = s.du.integral ∧ t.du.holdDemand = 0)
      ∧ (t.du.stalk = 5 → s.du.hold = .holding → available →
          t.du.hold = .holding ∧ t.du.target = s.du.target
            ∧ (barred → t.du.integral = s.du.integral)
            ∧ (¬barred → (t.du.integral : Int) = max 0 (min 2047 (s.du.integral + rise)))
            ∧ (t.du.holdDemand : Int) = max 0 (min 2047 (e * s.cfg.loc.kp / 16 + t.du.integral)))
      ∧ (t.du.stalk = 5 → s.du.hold = .holding → ¬available →
          t.du.hold = .holding ∧ t.du.target = s.du.target ∧ t.du.integral = s.du.integral ∧ t.du.holdDemand = 0)

/-- The merge (R45 to R48): with a contribution D is the largest of them and the phase SOURCED; without one the phases hold D,
then ramp it down. LOCAL skips the stage (R34). UNSOURCED leaves D as it is, which is 0 in every run (log 20). -/
def Obligations.DemandMergeAndLoss : Prop :=
  ∀ (s : State) (pa pb : BitVec 10) (stk : BitVec 3), demandRuns s.stc.state = true →
    ∃ t, exec (.duEvaluationExpiry pa pb stk) s = .next t
      ∧ (s.stc.state = .localOnly → t.du.d = s.du.d ∧ t.du.phase = s.du.phase ∧ t.du.lossCount = s.du.lossCount)
      ∧ (s.stc.state ≠ .localOnly →
          let contributes (v : Nat) : Prop :=
            s.isSource = true ∧ v = t.du.own
              ∨ ∃ j r p, slotGet s.pt j = some r ∧ r.state = .fresh ∧ r.demand = some p
                  ∧ p.age < s.cfg.shared.demandAge ∧ v = min p.value.toNat 2047
          let ramped := s.du.d - min s.cfg.shared.demandRamp 2047
          ((∃ v, contributes v) →
              t.du.phase = .sourced ∧ contributes t.du.d ∧ ∀ v, contributes v → v ≤ t.du.d)
            ∧ ((¬∃ v, contributes v) →
                (s.du.phase = .unsourced → t.du.d = s.du.d ∧ t.du.phase = .unsourced)
                  ∧ (s.du.phase = .sourced → t.du.d = s.du.d ∧ t.du.phase = .holding ∧ t.du.lossCount = 1)
                  ∧ (s.du.phase = .holding → s.du.lossCount < s.cfg.shared.demandHold →
                      t.du.d = s.du.d ∧ t.du.phase = .holding ∧ t.du.lossCount = s.du.lossCount + 1)
                  ∧ (s.du.phase = .holding ∧ s.cfg.shared.demandHold ≤ s.du.lossCount ∨ s.du.phase = .ramping →
                      t.du.d = ramped ∧ (t.du.phase = if ramped = 0 then .unsourced else .ramping))))

/-- A station that is no demand source does not read its pedal and stalk pins: whatever they present, its evaluation ends in the
same state but for the levels themselves, and its driver values stay (chapter 2, opening; R44). -/
def Obligations.NonSourceReadsNoDriverPins : Prop :=
  ∀ (s : State) (pa pb pa' pb' : BitVec 10) (stk stk' : BitVec 3), s.isSource = false →
    ∃ t u, exec (.duEvaluationExpiry pa pb stk) s = .next t ∧ exec (.duEvaluationExpiry pa' pb' stk') s = .next u
      ∧ u = { t with inp := { s.inp with pa := pa', pb := pb', stk := stk' } }
      ∧ t.du.pedal = s.du.pedal ∧ t.du.stalk = s.du.stalk ∧ t.du.hold = s.du.hold ∧ t.du.own = s.du.own

/-! ### The peer table (chapter 3) -/

/-- AGE_EXPIRY in every state ages every record and demand part by 1 up to 255, makes a FRESH record of age STALE_AGE STALE, and
empties any other record of age ABSENT_AGE (R70, R71). Nothing else changes. -/
def Obligations.AgeExpiryAgesEverySlot : Prop :=
  ∀ s : State, ∃ t, exec .ageExpiry s = .next t
    ∧ t = { s with pt := t.pt, out := outputsOf t }
    ∧ ∀ j,
        (slotGet s.pt j = none → slotGet t.pt j = none)
          ∧ ∀ r, slotGet s.pt j = some r →
              let age := min 255 (r.age + 1)
              let older : PeerRecord :=
                { r with age := age, demand := r.demand.map fun p => { p with age := min 255 (p.age + 1) } }
              (r.state = .fresh → age < s.cfg.shared.staleAge → slotGet t.pt j = some older)
                ∧ (r.state = .fresh → s.cfg.shared.staleAge ≤ age →
                    slotGet t.pt j = some { older with state := .stale })
                ∧ (r.state ≠ .fresh → age < s.cfg.shared.absentAge → slotGet t.pt j = some older)
                ∧ (r.state ≠ .fresh → s.cfg.shared.absentAge ≤ age → slotGet t.pt j = none)

/-- The classes of an arriving sequence s against the last sequence r (R57): newer when (s - r) mod 256 is 1 to 127, duplicate at
0, late from 128. Where acceptance depends on the sequence (at a FRESH record, and for a STANDING or a LEAVE at a LEFT one) a newer
statement is accepted and a duplicate or late one discarded; an accepted statement sets the last sequence to s, and a discarded
one leaves the record unchanged, at every record. -/
def Obligations.SequenceClasses : Prop :=
  ∀ (own : Half) (stmt : Statement) (seq : BitVec 8) (r : PeerRecord),
    let ahead := (seq.toNat + 256 - r.seq.toNat) % 256
    (seqNewer seq r.seq = true ↔ 1 ≤ ahead ∧ ahead ≤ 127)
      ∧ (ahead = 0 ↔ seq = r.seq)
      ∧ (r.state = .fresh → (∀ f, stmt = .standing f → f.role ≠ 3) → 1 ≤ ahead → ahead ≤ 127 →
          ∃ r', arriveAt own stmt seq (some r) = some r' ∧ r'.seq = seq)
      ∧ (r.state = .left → (∃ f, stmt = .standing f ∧ f.role ≠ 3) ∨ stmt = .leave → 1 ≤ ahead → ahead ≤ 127 →
          ∃ r', arriveAt own stmt seq (some r) = some r' ∧ r'.seq = seq)
      ∧ (r.state = .fresh ∨ r.state = .left → ahead = 0 ∨ 128 ≤ ahead → arriveAt own stmt seq (some r) = some r)
      ∧ (arriveAt own stmt seq (some r) = some r ∨ ∃ r', arriveAt own stmt seq (some r) = some r' ∧ r'.seq = seq)

/-- A STANDING at a slot (R56 to R64): what is learned, what is updated, what is discarded, by the state of the record. `fresh`
is the record learning makes: every optional part dropped, the fields and the role part stored, age 0. -/
def Obligations.StandingArrival : Prop :=
  ∀ (own : Half) (f : StandingFields) (seq : BitVec 8) (role : Role),
    let arrive := arriveAt own (.standing f) seq
    let fresh : PeerRecord :=
      { state := if f.profile = own then .fresh else .mismatch
        role := role, drive := f.drive, guard := f.guard, speedFault := f.speedFault, profile := f.profile
        seq := seq, age := 0, capacity := f.capacity, take := f.take
        axle := if role = .axle then some { limit := f.limit, weight := f.weight, wheel := f.wheel } else none
        exhaust := if role = .exhaust then some { n := f.n, k := f.k } else none
        demand := none, alert := none }
    (f.role = 3 → ∀ slot, arrive slot = slot)
      ∧ (roleOfCode f.role.toNat = some role →
          arrive none = some fresh
            ∧ ∀ r : PeerRecord,
                let kept : PeerRecord :=
                  { fresh with
                    demand := r.demand, alert := r.alert.map fun a => { a with degradedPending := false } }
                let newer := seqNewer seq r.seq
                (r.state = .fresh ∧ newer = true ∨ r.state = .stale →
                    (role = r.role → f.profile = own → arrive (some r) = some kept)
                      ∧ (role ≠ r.role ∨ f.profile ≠ own → arrive (some r) = some fresh))
                  ∧ (r.state = .left → newer = true → arrive (some r) = some fresh)
                  ∧ (r.state = .mismatch → arrive (some r) = some fresh)
                  ∧ (r.state = .fresh ∨ r.state = .left → newer = false → arrive (some r) = some r))

/-- A DEMAND, an ALERT and a LEAVE at a slot (R66 to R69), by the state of the record. A DEMAND or ALERT is taken newer at FRESH
and with any sequence at STALE; SINK_DEGRADED sets the degraded-pending mark and any other code leaves it (a new alert part
starts with the mark clear, log 24). A LEAVE makes the record LEFT and drops its demand and alert parts. -/
def Obligations.ValueAndLeaveArrival : Prop :=
  ∀ (own : Half) (seq : BitVec 8),
    (∀ stmt, (∀ f, stmt ≠ .standing f) → arriveAt own stmt seq none = none)
      ∧ ∀ r : PeerRecord,
          let newer := seqNewer seq r.seq
          let taken : Prop := r.state = .fresh ∧ newer = true ∨ r.state = .stale
          (∀ v, taken → arriveAt own (.demand v) seq (some r) = some { r with demand := some { value := v, age := 0 }, seq := seq })
            ∧ (∀ v, ¬taken → arriveAt own (.demand v) seq (some r) = some r)
            ∧ (∀ a : Alert, taken →
                arriveAt own (.alert a) seq (some r)
                  = some { r with
                      alert := some
                        { code := a.code, subject := a.subject
                          degradedPending := a.code == 2 || (r.alert.map (·.degradedPending)).getD false }
                      seq := seq })
            ∧ (∀ a : Alert, ¬taken → arriveAt own (.alert a) seq (some r) = some r)
            ∧ (newer = true ∨ r.state = .stale ∨ r.state = .mismatch →
                arriveAt own .leave seq (some r)
                  = some { r with state := .left, seq := seq, age := 0, demand := none, alert := none })
            ∧ (newer = false → r.state = .fresh ∨ r.state = .left → arriveAt own .leave seq (some r) = some r)

/-! ### The share line: what is heard (chapter 4) -/

/-- CHARACTER_RECEIVED in LISTEN, ACTIVE, LOCAL and LEAVING, character by character (R94): a good header of a known kind begins a
frame, whatever was in progress; a good character of mark 0 is appended while the frame is short; HUNTING ignores mark 0; a
disarmed receiver takes nothing. A receive error (R95) leaves the receiver HUNTING, and counts 1 unless it fell under own DE or
in a frame begun under it; while SILENT it sets the recovery counter to 0 (R100). The error counted at 191 makes the station SILENT
with its recovery counter at 0, and takes an ACTIVE one to LOCAL (R99, R100, R162). Elsewhere nothing is received (R56). A character
at whose end DE was released still counts as under own DE, whichever of read-back and reception comes first: the model's reading,
by the field tail (log 5). -/
def Obligations.CharactersReceived : Prop :=
  (∀ (s : State) (c : Character), operating s.stc.state = true →
    let own := underDE s
    let heard (rx : Receiver) : Lp := { s.lp with tail := .none, rx := rx }
    let armed : Prop := s.lp.rx ≠ .disarmed
    ∃ t, exec (.characterReceived c) s = .next t
      ∧ (s.lp.rx = .disarmed → t = { s with lp := heard .disarmed, out := outputsOf t })
      ∧ (s.lp.rx = .hunting → charMark c = false → t = { s with lp := heard .hunting, out := outputsOf t })
      ∧ (∀ n, armed → charMark c = true → charGood c = true → headerLength (charData c) = some n →
          t = { s with
            lp := heard (.inFrame { bytes := [charData c], expected := n, begunDE := own, allDE := own })
            out := outputsOf t })
      ∧ (∀ f, s.lp.rx = .inFrame f → charMark c = false → charGood c = true → f.bytes.length + 1 < f.expected →
          t = { s with
            lp := heard (.inFrame { f with bytes := f.bytes ++ [charData c], allDE := f.allDE && own })
            out := outputsOf t })
      ∧ (∀ begunDE : Bool,
          (armed ∧ charMark c = true ∧ (charGood c = false ∨ headerLength (charData c) = none) ∧ begunDE = false
            ∨ ∃ f, s.lp.rx = .inFrame f ∧ charMark c = false ∧ begunDE = f.begunDE
                ∧ (charGood c = false
                  ∨ f.expected ≤ f.bytes.length + 1 ∧ frameChecks (f.bytes ++ [charData c]) = false)) →
          t.lp.rx = .hunting
            ∧ ((own = true ∨ begunDE = true) → t = { s with lp := heard .hunting, out := outputsOf t })
            ∧ (own = false → begunDE = false →
                (s.lp.trouble < 192 → t.lp.trouble = s.lp.trouble + 1)
                  ∧ (192 ≤ s.lp.trouble → t = { s with lp := { heard .hunting with recovery := 0 }, out := outputsOf t })
                  ∧ (s.lp.trouble < 191 →
                      t = { s with lp := { heard .hunting with trouble := s.lp.trouble + 1 }, out := outputsOf t })
                  ∧ (s.lp.trouble = 191 → s.stc.state ≠ .active →
                      t = { s with lp := { heard .hunting with trouble := 192, recovery := 0 }, out := outputsOf t })
                  ∧ (s.lp.trouble = 191 → s.stc.state = .active →
                      t.stc = { s.stc with state := .localOnly }
                        ∧ t.lp = { heard .hunting with trouble := 192, recovery := 0 }
                        ∧ t.stx.queue = [] ∧ anyPending t.stx = false ∧ t.stx.seq = s.stx.seq ∧ t.pt = s.pt
                        ∧ t.du.d = 0 ∧ t.du.phase = .unsourced ∧ t.pe.plan.share = 0 ∧ t.pe.shortfall = false
                        ∧ t.out.fault = true
                        ∧ (¬(s.role = .axle ∧ s.isSource = true) → t.sc.c = 0 ∧ t.sc.kNow = 0)))))
    ∧ ∀ (s : State) (c : Character), operating s.stc.state = false →
      exec (.characterReceived c) s = .next { s with out := outputsOf s }

/-- The last character of a valid frame of a peer, with the standing not SILENT: the trouble count falls by 1, the receiver hunts,
the statement arrives at its slot of the table and at no other, entry to MISMATCH offers PROFILE_MISMATCH (R65), and an ALERT of
code 1, 4 or 6 sets the warn hold (R95, R97, R98, R173). -/
def Obligations.PeerFrameIsHandedOn : Prop :=
  ∀ (s : State) (f : RxFrame) (c : Character), operating s.stc.state = true → s.lp.rx = .inFrame f →
    charMark c = false → charGood c = true → f.expected ≤ f.bytes.length + 1 → s.lp.trouble < 192 →
    let bytes := f.bytes ++ [charData c]
    let id := headerIdent (byteAt bytes 0)
    let stmt := statementOf bytes
    frameChecks bytes = true → id ≠ s.stc.id →
    ∃ t, exec (.characterReceived c) s = .next t
      ∧ t = { s with
          pt := t.pt, stx := t.stx, stc := { s.stc with warnHold := t.stc.warnHold }
          lp := { s.lp with tail := .none, rx := .hunting, trouble := s.lp.trouble - 1, origin := t.lp.origin }
          out := outputsOf t }
      ∧ OriginFollows s t
      ∧ StatementArrives s t id (byteAt bytes 1) stmt

/-- A valid frame of the own identity (R96): the echo, under own DE from its header to its last character and of a transmission
that completed, is discarded and changes no count (that both hold whichever of the read-back and the reception of a character comes
first is the model's reading, by the field tail: log 5); any other is a duplicate identity and takes the station to FAULT with cause
DUP_ID (R164), where the table, slots, queue and plan are empty, DE is released, command and outputs are 0, and both lamps are
lit (R165, R172, R174). -/
def Obligations.EchoAndDuplicateIdentity : Prop :=
  ∀ (s : State) (f : RxFrame) (c : Character), operating s.stc.state = true → s.lp.rx = .inFrame f →
    charMark c = false → charGood c = true → f.expected ≤ f.bytes.length + 1 →
    frameChecks (f.bytes ++ [charData c]) = true → headerIdent (byteAt (f.bytes ++ [charData c]) 0) = s.stc.id →
    let echo : Prop := f.allDE = true ∧ underDE s = true ∧ ownCompleted s c = true
    ∃ t, exec (.characterReceived c) s = .next t
      ∧ (echo → t = { s with lp := { s.lp with tail := .none, rx := .hunting }, out := outputsOf t })
      ∧ (¬echo →
          t.stc.state = .fault ∧ t.stc.cause = .dupId ∧ t.stc.ignOffCount = 0 ∧ t.stc.warnHold = 0
            ∧ (∀ j, slotGet t.pt j = none)
            ∧ t.stx.urgent = .empty ∧ t.stx.demand = .empty ∧ t.stx.standing = .empty ∧ t.stx.queue = []
            ∧ t.stx.seq = s.stx.seq ∧ t.lp.tx = none ∧ t.lp.rx = .disarmed
            ∧ t.pe.plan.share = 0 ∧ t.pe.plan.s = 0 ∧ t.pe.shortfall = false ∧ t.du.d = 0
            ∧ t.sc.c = 0 ∧ t.sc.kNow = 0 ∧ t.sc.degraded = s.sc.degraded
            ∧ t.te = s.te ∧ t.cu = s.cu ∧ t.am = s.am ∧ t.cfg = s.cfg
            ∧ t.out.fault = true ∧ t.out.warn = true ∧ t.out.de = false ∧ t.out.drive = 0 ∧ t.out.exs = 0)

/-- Recovery (R100): while SILENT the trouble count is frozen, and each valid frame of a peer adds 1 to the recovery counter; the
one that would make it 128 sets both counts to 0, and a station in LOCAL then enters LISTEN (R154, R159, R162). The statement is
handed on in either case (R97): the table, the warn hold (R173), and the PROFILE_MISMATCH alert, which LISTEN and ACTIVE take (R84).
The model counts before it hands on, so at the frame that takes LOCAL to LISTEN that alert is taken (log 12); that access then waits
for the next line-free point is held as an origin unset (log 26). -/
def Obligations.RecoveryFromSilence : Prop :=
  ∀ (s : State) (f : RxFrame) (c : Character), operating s.stc.state = true → s.lp.rx = .inFrame f →
    charMark c = false → charGood c = true → f.expected ≤ f.bytes.length + 1 → 192 ≤ s.lp.trouble →
    let bytes := f.bytes ++ [charData c]
    let id := headerIdent (byteAt bytes 0)
    frameChecks bytes = true → id ≠ s.stc.id →
    ∃ t, exec (.characterReceived c) s = .next t
      ∧ StatementArrives s t id (byteAt bytes 1) (statementOf bytes)
      ∧ (s.stc.state ≠ .active → t.stx.urgent = s.stx.urgent)
      ∧ (s.lp.recovery < 127 →
          t = { s with
              pt := t.pt, stx := t.stx, stc := { s.stc with warnHold := t.stc.warnHold }
              lp := { s.lp with tail := .none, rx := .hunting, recovery := s.lp.recovery + 1, origin := t.lp.origin }
              out := outputsOf t }
            ∧ OriginFollows s t)
      ∧ (127 ≤ s.lp.recovery →
          t.standing = .speaking
            ∧ t.lp = { s.lp with
                tail := .none, rx := .hunting, trouble := 0, recovery := 0, origin := t.lp.origin }
            ∧ (s.stc.state ≠ .active → t.lp.origin = .unset)
            ∧ (s.stc.state = .localOnly →
                t = { s with
                  pt := t.pt, stx := t.stx, lp := t.lp
                  stc := { s.stc with
                    state := .listen, listenCount := 0, ignOffCount := 0, warnHold := t.stc.warnHold }
                  pe := { plan := { share := 0, step := 0, ownDrive := false, t1 := 0, t2 := 0, s := 0 }
                          shortfall := false, run := 0 }
                  sc := { s.sc with c := 0, kNow := 0, riseHold := 0, supCount := 0 }
                  out := outputsOf t })
            ∧ (s.stc.state ≠ .localOnly →
                t = { s with
                  pt := t.pt, stx := t.stx, lp := t.lp, stc := { s.stc with warnHold := t.stc.warnHold }
                  out := outputsOf t }))

/-- Any statement of any identity, framed as R77 lays it out, reads back from its bytes: the identity, the sequence number, the
length its header fixes, the CRC, and the statement itself, field by field. -/
def Obligations.FramesReadBack : Prop :=
  ∀ (id : Ident) (seq : BitVec 8) (stmt : Statement),
    let bytes := frameOf id seq stmt
    headerIdent (byteAt bytes 0) = id ∧ byteAt bytes 1 = seq ∧ headerLength (byteAt bytes 0) = some bytes.length
      ∧ frameChecks bytes = true ∧ statementOf bytes = stmt

/-- Any statement of a peer, sent character by character with the mark on the header alone (R75, R77), reaches its slot of the
table in a station that hunts and sends nothing, and no other slot (R94 to R97); the receiver then hunts again. -/
def Obligations.WholeFrameIsHeard : Prop :=
  ∀ (s : State) (id : Ident) (seq : BitVec 8) (stmt : Statement), operating s.stc.state = true → s.lp.rx = .hunting →
    s.lp.tx = none → s.lp.tail = .none → id ≠ s.stc.id →
    let bytes := frameOf id seq stmt
    let characters := charOf true (byteAt bytes 0) :: (bytes.tail.map (charOf false))
    ∃ t, runCommands (characters.map .characterReceived) s = some t
      ∧ slotGet t.pt id = arriveAt s.cfg.profile stmt seq (slotGet s.pt id)
      ∧ (∀ j, j ≠ id → slotGet t.pt j = slotGet s.pt j)
      ∧ t.lp.rx = .hunting ∧ (s.lp.trouble < 192 → t.lp.trouble = s.lp.trouble - 1)

/-! ### The share line: what is said -/

/-- STANDING_EXPIRY in ACTIVE forms a STANDING of the owners' values (R79), DEMAND_EXPIRY in ACTIVE on a demand source a DEMAND
of d_own (R80). It makes an EMPTY slot PENDING, supersedes a PENDING statement, and is the follow-up of one being sent (R82).
With the line FREE, nothing PENDING and nothing being sent, the access origin is set (R88). Else nothing is formed. -/
def Obligations.FormedStatementsEnterTheirSlots : Prop :=
  let entered (stmt : Statement) (slot : Slot) : Slot :=
    match slot with
    | .empty => .pending { stmt := stmt, seq := none, failed := 0 }
    | .pending _ => .pending { stmt := stmt, seq := none, failed := 0 }
    | .sending h _ noRetry => .sending h (some stmt) noRetry
  (∀ s : State, s.stc.state = .active →
    let axle : Bool := s.role == .axle
    let exhaust : Bool := s.role == .exhaust
    let f : StandingFields :=
      { role := match s.role with | .exhaust => 0 | .retarder => 1 | .axle => 2
        drive := axle && s.cfg.loc.driveFlag, guard := s.cu.guarded, speedFault := axle && s.am.faultFlag
        profile := s.cfg.profile, capacity := BitVec.ofNat 16 s.cu.capacity, take := BitVec.ofNat 16 s.sc.take
        limit := BitVec.ofNat 16 (if axle then s.am.limit else 0), wheel := BitVec.ofNat 16 (if axle then s.am.w else 0)
        weight := BitVec.ofNat 8 (if axle then s.cfg.loc.weight else 0)
        n := BitVec.ofNat 4 (if exhaust then s.cfg.loc.n else 0), k := BitVec.ofNat 4 (if exhaust then s.sc.kNow else 0) }
    ∃ t, exec .standingExpiry s = .next t
      ∧ t = { s with
          stx := { s.stx with standing := entered (.standing f) s.stx.standing }
          lp := { s.lp with origin := t.lp.origin }, out := outputsOf t }
      ∧ (s.lp.line = .free → s.lp.tx = none → anyPending s.stx = false → s.stx.standing = .empty →
          t.lp.origin = .slotPending)
      ∧ (s.lp.line = .busy ∨ s.lp.tx ≠ none ∨ anyPending s.stx = true → t.lp.origin = s.lp.origin))
    ∧ (∀ s : State, s.stc.state = .active → s.isSource = true →
      ∃ t, exec .demandExpiry s = .next t
        ∧ t = { s with
            stx := { s.stx with demand := entered (.demand (BitVec.ofNat 16 s.du.own)) s.stx.demand }
            lp := { s.lp with origin := t.lp.origin }, out := outputsOf t }
        ∧ (s.lp.line = .free → s.lp.tx = none → anyPending s.stx = false → s.stx.demand = .empty →
            t.lp.origin = .slotPending)
        ∧ (s.lp.line = .busy ∨ s.lp.tx ≠ none ∨ anyPending s.stx = true → t.lp.origin = s.lp.origin))
    ∧ (∀ s : State, s.stc.state ≠ .active → exec .standingExpiry s = .next { s with out := outputsOf s })
    ∧ ∀ s : State, s.stc.state ≠ .active ∨ s.isSource = false → exec .demandExpiry s = .next { s with out := outputsOf s }

/-- A BUSY line quiet for 14 bit times becomes FREE, sets the access origin, arms the receiver and abandons a frame in progress
(R76, R88, R94); a start bit makes the line BUSY and changes no slot, number or count (R76, R89). Both act in the states in
which LP watches the line, and a FREE line has had its point already (logs 2 and 18). -/
def Obligations.LineFreePointAndStartBit : Prop :=
  (∀ (s : State) (quietFor : Nat), operating s.stc.state = true → s.lp.line = .busy → 14 ≤ quietFor →
    ∃ t, exec (.lineFreePoint quietFor) s = .next t
      ∧ t = { s with
          lp := { s.lp with line := .free, origin := .lineFreePoint, tail := .none, rx := .hunting }
          out := outputsOf t })
    ∧ (∀ (s : State) (quietFor : Nat), operating s.stc.state = false ∨ s.lp.line = .free ∨ quietFor < 14 →
      exec (.lineFreePoint quietFor) s = .next { s with out := outputsOf s })
    ∧ (∀ s : State, operating s.stc.state = true →
      ∃ t, exec .startBit s = .next t
        ∧ t = { s with lp := { s.lp with line := .busy, tail := .none }, out := outputsOf t })
    ∧ ∀ s : State, operating s.stc.state = false → exec .startBit s = .next { s with out := outputsOf s }

/-- ACCESS_WAIT_END starts the frame of the most urgent PENDING slot once its access wait has passed (R88, R90): the slot is
SENDING, an unnumbered statement takes the counter's value and the counter steps on (R83), DE is asserted and the header is on
TXD with its mark. No frame starts while the line is BUSY, while SILENT, before the wait has passed, or outside ACTIVE but for
the LEAVE in LEAVING (R93). -/
def Obligations.AccessWaitEndStartsTheFrame : Prop :=
  ∀ (s : State) (cls : SlotClass) (h : Held) (elapsed : Nat),
    slotOf s.stx cls = .pending h → (∀ d, classNumber d < classNumber cls → isPending (slotOf s.stx d) = false) →
    let wait := (classNumber cls * 8 + s.stc.id.val + if 96 ≤ s.lp.trouble then 24 else 0) * 3
    let n := h.seq.getD s.stx.seq
    (s.lp.line = .free → s.lp.origin ≠ .unset → s.lp.tx = none → s.lp.trouble < 192 →
      s.stc.state = .active ∨ s.stc.state = .leaving ∧ h.stmt = .leave → wait ≤ elapsed →
      ∃ t, exec (.accessWaitEnd elapsed) s = .next t
        ∧ t = { s with
            stx := withSlot { s.stx with seq := if h.seq = none then s.stx.seq + 1 else s.stx.seq } cls
              (.sending { h with seq := some n } none false)
            lp := { s.lp with tx := some { cls := cls, bytes := frameOf s.stc.id n h.stmt, idx := 0 }, tail := .none }
            out := outputsOf t }
        ∧ t.out.de = true ∧ t.out.txd = some (charOf true (byteAt (frameOf s.stc.id n h.stmt) 0)))
      ∧ (s.lp.line = .busy ∨ s.lp.origin = .unset ∨ s.lp.tx ≠ none ∨ 192 ≤ s.lp.trouble
          ∨ s.lp.trouble < 192 ∧ elapsed < wait
          ∨ (s.stc.state ≠ .active ∧ ¬(s.stc.state = .leaving ∧ h.stmt = .leave)) →
        exec (.accessWaitEnd elapsed) s = .next { s with out := outputsOf s })

/-- A character read back without difference, before the last, puts the next one on TXD with mark 0; DE stays (R90). With no
frame under way there is nothing to compare. -/
def Obligations.ReadBackGoesOn : Prop :=
  (∀ (s : State) (f : TxFrame) (c : Character) (ign : Bool), s.lp.tx = some f → f.idx + 1 < f.bytes.length →
    charGood c = true → (charMark c = true ↔ f.idx = 0) → charData c = byteAt f.bytes f.idx →
    ∃ t, exec (.characterReadBack (some c) ign) s = .next t
      ∧ t = { s with
          lp := { s.lp with tx := some { f with idx := f.idx + 1 } }, inp := { s.inp with ign := ign }, out := outputsOf t }
      ∧ t.out.de = true ∧ t.out.txd = some (charOf false (byteAt f.bytes (f.idx + 1))))
    ∧ ∀ (s : State) (read : Option Character) (ign : Bool), s.lp.tx = none →
      exec (.characterReadBack read ign) s = .next { s with inp := { s.inp with ign := ign }, out := outputsOf s }

/-- A frame whose last character reads back without difference is completed (R92): DE is released, the trouble count falls by 1
(frozen while SILENT, R98), and the slot becomes EMPTY or PENDING with its follow-up; a completed ALERT is followed by the head of
the queue in ACTIVE, and in another state the queue keeps its entries (R86). A completed LEAVE in LEAVING parks the station (R168,
R169): PARKED with the ignition off, and with it on the wake in the same event. -/
def Obligations.FrameCompletes : Prop :=
  ∀ (s : State) (f : TxFrame) (c : Character) (ign : Bool) (h : Held) (followUp : Option Statement) (noRetry : Bool),
    AlertQueueLegal s → s.lp.tx = some f → f.bytes.length ≤ f.idx + 1 →
    charGood c = true → (charMark c = true ↔ f.idx = 0) → charData c = byteAt f.bytes f.idx →
    slotOf s.stx f.cls = .sending h followUp noRetry →
    let settled : Slot :=
      match followUp with
      | some stmt => .pending { stmt := stmt, seq := none, failed := 0 }
      | none => .empty
    ∃ t, exec (.characterReadBack (some c) ign) s = .next t ∧ t.lp.tx = none ∧ t.out.de = false
      ∧ (¬(h.stmt = .leave ∧ s.stc.state = .leaving) →
          t = { s with
              lp := { s.lp with
                tx := none, tail := .completed, origin := t.lp.origin
                trouble := if 192 ≤ s.lp.trouble then s.lp.trouble else s.lp.trouble - 1 }
              stx := t.stx, inp := { s.inp with ign := ign }, out := outputsOf t }
            ∧ (t.lp.origin =
                if s.lp.line = .free ∧ anyPending s.stx = false ∧ anyPending t.stx = true then .slotPending else s.lp.origin)
            ∧ (f.cls ≠ .urgent ∨ followUp ≠ none ∨ s.stx.queue = [] ∨ s.stc.state ≠ .active →
                t.stx = withSlot s.stx f.cls settled)
            ∧ (∀ a rest, f.cls = .urgent → followUp = none → s.stc.state = .active → s.stx.queue = a :: rest →
                t.stx = { s.stx with
                  urgent := .pending { stmt := .alert a, seq := none, failed := 0 }, queue := rest }))
      ∧ (h.stmt = .leave → s.stc.state = .leaving →
          t.stx.urgent = .empty ∧ t.stx.demand = .empty ∧ t.stx.standing = .empty ∧ t.stx.queue = []
            ∧ t.stx.seq = s.stx.seq ∧ (∀ j, slotGet t.pt j = none) ∧ t.lp.trouble = 0 ∧ t.stc.parkTimer = 0
            ∧ (ign = false → t.stc.state = .parked ∧ t.out.fault = false ∧ t.out.warn = false)
            ∧ (ign = true → t.stc.state = .listen ∧ t.lp.line = .busy ∧ t.sc.degraded = false))

/-- A collision (R90, R91): a character that differs, has a framing error or was not read back ends the frame; with none read back
the line is taken as BUSY. The first and second failure return the statement to PENDING with its number; the third discards it and
raises the trouble count by 8, which is frozen while SILENT (R98). A follow-up takes the slot in any case, and a frame that was
under way at entry to LOCAL or LEAVING is not retried (R87, R101; its third failure still counts, log 13). An urgent slot left
EMPTY in ACTIVE takes the head of the queue (R86), and the access origin follows (R88). A station that becomes SILENT has its
recovery counter at 0, and goes from ACTIVE to LOCAL (R100, R162); a discarded LEAVE parks it (R168). -/
def Obligations.FailedAttempts : Prop :=
  ∀ (s : State) (f : TxFrame) (read : Option Character) (ign : Bool) (h : Held) (followUp : Option Statement) (noRetry : Bool),
    s.lp.tx = some f → slotOf s.stx f.cls = .sending h followUp noRetry → h.failed ≤ 2 →
    (∀ c, read = some c → ¬(charGood c = true ∧ (charMark c = true ↔ f.idx = 0) ∧ charData c = byteAt f.bytes f.idx)) →
    let line : LineState := if read = none then .busy else s.lp.line
    let settled : Slot :=
      match followUp with
      | some stmt => .pending { stmt := stmt, seq := none, failed := 0 }
      | none => if h.failed = 2 ∨ noRetry = true then .empty else .pending { h with failed := h.failed + 1 }
    let stx := withSlot s.stx f.cls settled
    let filled : Stx :=
      match s.stc.state, stx.urgent, stx.queue with
      | .active, .empty, a :: rest =>
        { stx with urgent := .pending { stmt := .alert a, seq := none, failed := 0 }, queue := rest }
      | _, _, _ => stx
    let trouble := if h.failed = 2 ∧ s.lp.trouble < 192 then s.lp.trouble + 8 else s.lp.trouble
    let falls : Prop := s.lp.trouble < 192 ∧ 192 ≤ trouble
    let parks : Prop := h.failed = 2 ∧ h.stmt = .leave ∧ s.stc.state = .leaving
    ∃ t, exec (.characterReadBack read ign) s = .next t ∧ t.lp.tx = none ∧ t.out.de = false ∧ t.stx.seq = s.stx.seq
      ∧ (¬parks → t.lp.trouble = trouble)
      ∧ (¬parks → ¬(falls ∧ s.stc.state = .active) →
          t = { s with
              lp := { s.lp with
                tx := none, tail := .collided, line := line, origin := t.lp.origin, trouble := trouble
                recovery := t.lp.recovery }
              stx := filled, inp := { s.inp with ign := ign }, out := outputsOf t }
            ∧ (t.lp.origin =
                if line = .free ∧ anyPending s.stx = false ∧ anyPending t.stx = true then .slotPending else s.lp.origin)
            ∧ (falls → t.lp.recovery = 0) ∧ (¬falls → t.lp.recovery = s.lp.recovery))
      ∧ (falls → s.stc.state = .active →
          t.stc.state = .localOnly ∧ t.lp.recovery = 0 ∧ t.stx.queue = [] ∧ anyPending t.stx = false ∧ t.pt = s.pt
            ∧ t.du.d = 0 ∧ t.pe.plan.share = 0 ∧ t.out.fault = true
            ∧ (¬(s.role = .axle ∧ s.isSource = true) → t.sc.c = 0 ∧ t.sc.kNow = 0))
      ∧ (parks →
          t.lp.trouble = 0 ∧ t.stx.urgent = .empty ∧ t.stx.queue = [] ∧ t.stc.parkTimer = 0
            ∧ t.stc.state = if ign = true then .listen else .parked)

/-- An alert offered in LISTEN or ACTIVE (R84): an entry with the same code and subject keeps its place and takes the new detail;
else the alert is appended below 4 entries, and discarded at 4. Offered elsewhere it is discarded. In ACTIVE with the urgent slot
EMPTY the head of the queue moves into it (R86), and where that is the first PENDING slot on a FREE line with nothing being sent,
the access origin is that moment (R88). -/
def Obligations.AlertQueueTakesAlerts : Prop :=
  (∀ (a : Alert) (q : List Alert),
    let same (b : Alert) : Prop := b.code = a.code ∧ b.subject = a.subject
    ((∃ b ∈ q, same b) →
        (enqueue a q).length = q.length
          ∧ ∀ (k : Nat) (b : Alert), q[k]? = some b →
              (same b → (enqueue a q)[k]? = some a) ∧ (¬same b → (enqueue a q)[k]? = some b))
      ∧ ((¬∃ b ∈ q, same b) → q.length < 4 → enqueue a q = q ++ [a])
      ∧ ((¬∃ b ∈ q, same b) → 4 ≤ q.length → enqueue a q = q))
    ∧ ∀ (s : State) (a : Alert),
        (s.stc.state ≠ .listen → s.stc.state ≠ .active → s.offerAlert a = s)
          ∧ (s.stc.state = .listen ∨ s.stc.state = .active ∧ s.stx.urgent ≠ .empty →
              s.offerAlert a = { s with stx := { s.stx with queue := enqueue a s.stx.queue } })
          ∧ (∀ b rest, s.stc.state = .active → s.stx.urgent = .empty → enqueue a s.stx.queue = b :: rest →
              s.offerAlert a = { s with
                stx := { s.stx with urgent := .pending { stmt := .alert b, seq := none, failed := 0 }, queue := rest }
                lp := { s.lp with
                  origin :=
                    if s.lp.line = .free ∧ s.lp.tx = none ∧ anyPending s.stx = false then .slotPending else s.lp.origin } })
          ∧ enqueue a [] = [a] ∧ OriginFollows s (s.offerAlert a)

/-! ### Capacity and the estimate (chapter 5) -/

/-- Reading a curve that the checks passed (R103): f_0 up to x_0, f_5 from x_5, and in a segment f_i moved toward f_(i+1) by the
amount rounded down; the fraction read lies between the two, within 0 to 256, and at a point it is the point's. -/
def Obligations.CurveReading : Prop :=
  ∀ (c : Curve) (x : Nat), curveOk c = true →
    (x ≤ c.p0.x → curveRead c x = c.p0.f) ∧ (c.p5.x ≤ x → curveRead c x = c.p5.f)
      ∧ (∀ (i : Nat) (p q : CurvePoint), (curvePoints c)[i]? = some p → (curvePoints c)[i + 1]? = some q →
          p.x ≤ x → x < q.x →
          (p.f ≤ q.f → curveRead c x = p.f + (q.f - p.f) * (x - p.x) / (q.x - p.x) ∧ curveRead c x ≤ q.f)
            ∧ (q.f ≤ p.f → curveRead c x = p.f - (p.f - q.f) * (x - p.x) / (q.x - p.x) ∧ q.f ≤ curveRead c x))
      ∧ (∀ p ∈ curvePoints c, curveRead c p.x = p.f)
      ∧ curveRead c x ≤ 256

/-- CU's values (R104, R106, R107): the speed index and the fractions by role, the raw capacity with the temperature fraction
applied and rounded first, and the advertised capacity by the first line that applies, never above KMAX. -/
def Obligations.AdvertisedCapacity : Prop :=
  ∀ (c : Cfg) (am : Am) (sc : Sc) (cu : Cu),
    let u := cuForm c am sc cu
    u = { cu with speedIndex := u.speedIndex, fT := u.fT, fS := u.fS, raw := u.raw, capacity := u.capacity }
      ∧ (cfgRole c = .retarder → u.speedIndex = if am.vrefState = .unavailable then 0 else am.vref)
      ∧ (cfgRole c = .exhaust → u.speedIndex = cu.engSpeed)
      ∧ (cfgRole c = .axle → u.fS = 256) ∧ (cfgRole c ≠ .axle → u.fS = curveRead c.loc.speedCurve u.speedIndex)
      ∧ (∀ code, cu.code = some code → u.fT = curveRead c.loc.tempCurve code)
      ∧ u.raw = c.loc.kmax * u.fT / 256 * u.fS / 256
      ∧ (sc.degraded = true ∨ sc.tempHold = true ∨ cu.code = none → u.capacity = 0)
      ∧ (¬(sc.degraded = true ∨ sc.tempHold = true ∨ cu.code = none) → cu.guarded = true →
          u.capacity = u.raw * min c.loc.guardFrac 256 / 256)
      ∧ (¬(sc.degraded = true ∨ sc.tempHold = true ∨ cu.code = none) → cu.guarded = false → u.capacity = u.raw)
      ∧ (curveOk c.loc.tempCurve = true → curveOk c.loc.speedCurve = true → u.capacity ≤ c.loc.kmax)

/-- THERMAL_EXPIRY of an AXLE station in LISTEN, ACTIVE, LOCAL or LEAVING (R114 to R118): heat by take times the speed used,
cooling on the heated value, saturation; the new code comes into force, is compared with the guard thresholds (R109) and the
capacity is formed anew (R108). Of another role, or in another state, it does nothing (R113, R114). -/
def Obligations.ThermalExpiryHeatsAndCools : Prop :=
  (∀ s : State, operating s.stc.state = true → s.role = .axle →
    let speed := if s.am.faultFlag = true then (if s.am.vrefState = .unavailable then 0 else s.am.vref) else s.am.w
    let ambient := s.cfg.loc.ambient * 2 ^ 20
    let hot := s.te.theta + s.sc.take * speed * s.cfg.loc.heatGain
    let theta := min (65535 * 2 ^ 20 + 1048575) (hot - (hot - ambient) * s.cfg.loc.coolGain / 2 ^ 24)
    ∃ t, exec .thermalExpiry s = .next t
      ∧ t = { s with te := { theta := theta }, cu := t.cu, out := outputsOf t }
      ∧ t.cu = cuForm s.cfg s.am s.sc { s.cu with code := some (theta / 2 ^ 20), guarded := t.cu.guarded }
      ∧ (s.cu.guarded = false → (t.cu.guarded = true ↔ s.cfg.loc.guardOn ≤ theta / 2 ^ 20))
      ∧ (s.cu.guarded = true → (t.cu.guarded = true ↔ s.cfg.loc.guardOff ≤ theta / 2 ^ 20))
      ∧ t.cu.fT = curveRead s.cfg.loc.tempCurve (theta / 2 ^ 20)
      ∧ (s.sc.degraded = true ∨ s.sc.tempHold = true → t.cu.capacity = 0)
      ∧ (s.sc.degraded = false → s.sc.tempHold = false → t.cu.guarded = false →
          t.cu.capacity = s.cfg.loc.kmax * t.cu.fT / 256)
      ∧ (s.sc.degraded = false → s.sc.tempHold = false → t.cu.guarded = true →
          t.cu.capacity = s.cfg.loc.kmax * t.cu.fT / 256 * min s.cfg.loc.guardFrac 256 / 256))
    ∧ ∀ s : State, operating s.stc.state = false ∨ s.role ≠ .axle →
      exec .thermalExpiry s = .next { s with out := outputsOf s }

/-- PARK_TIMER_TICK in PARKED counts a second, up to 65535 (R169). ENG_PULSE of an EXHAUST station and WHEEL_PULSE of an AXLE
station count a pulse of the open window: WHEEL up to 65535 (R123), ENG without a bound, which is the model's choice where R105
states no width (log 17). Before the first window, which the first sink expiry opens, no pulse is counted (log 7); elsewhere they do
nothing. -/
def Obligations.TicksAndPulsesCount : Prop :=
  (∀ s : State, s.stc.state = .parked →
      ∃ t, exec .parkTimerTick s = .next t
        ∧ t = { s with stc := { s.stc with parkTimer := min 65535 (s.stc.parkTimer + 1) }, out := outputsOf t })
    ∧ (∀ s : State, operating s.stc.state = true → s.role = .exhaust → s.cu.engOpen = true →
      ∃ t, exec .engPulse s = .next t
        ∧ t = { s with cu := { s.cu with engPulses := s.cu.engPulses + 1 }, out := outputsOf t })
    ∧ (∀ s : State, operating s.stc.state = true → s.role = .axle → s.am.windowOpen = true →
      ∃ t, exec .wheelPulse s = .next t
        ∧ t = { s with am := { s.am with pulses := min 65535 (s.am.pulses + 1) }, out := outputsOf t })
    ∧ (∀ s : State, s.stc.state ≠ .parked → exec .parkTimerTick s = .next { s with out := outputsOf s })
    ∧ (∀ s : State, operating s.stc.state = false ∨ s.role ≠ .exhaust ∨ s.cu.engOpen = false →
      exec .engPulse s = .next { s with out := outputsOf s })
    ∧ ∀ s : State, operating s.stc.state = false ∨ s.role ≠ .axle ∨ s.am.windowOpen = false →
      exec .wheelPulse s = .next { s with out := outputsOf s }

/-! ### Adhesion (chapter 6) -/

/-- AM_EVALUATION_EXPIRY, the reference-speed stage of every role (R124, R125): Vref is the largest wheel speed of the members, and
without a member it is held, then 0 and unavailable. The own wheel of an AXLE with its flag clear is a member; of
a woken station only once a window has closed (R135, log 6). A RETARDER forms its capacity anew from the new Vref (R108). In CONFIG,
PARKED and FAULT nothing happens (R122). -/
def Obligations.ReferenceSpeed : Prop :=
  (∀ s : State, operating s.stc.state = true →
    let member (v : Nat) : Prop :=
      s.role = .axle ∧ s.am.faultFlag = false ∧ s.am.woken = false ∧ v = s.am.w
        ∨ ∃ j r, slotGet s.pt j = some r ∧ r.state = .fresh ∧ r.role = .axle ∧ r.speedFault = false
            ∧ v = min ((r.axle.map fun a => a.wheel.toNat).getD 0) 511
    ∃ t, exec .amEvaluationExpiry s = .next t
      ∧ t = { s with
          am := t.am, cu := t.cu, stx := t.stx, lp := { s.lp with origin := t.lp.origin }, out := outputsOf t }
      ∧ OriginFollows s t
      ∧ (s.role = .retarder → t.cu = cuForm s.cfg t.am s.sc s.cu) ∧ (s.role ≠ .retarder → t.cu = s.cu)
      ∧ (s.role ≠ .axle →
          t.stx = s.stx
            ∧ t.am = { s.am with vref := t.am.vref, vrefState := t.am.vrefState, vrefHold := t.am.vrefHold })
      ∧ t.am.w = s.am.w ∧ t.am.pulses = s.am.pulses
      ∧ ((∃ v, member v) →
          member t.am.vref ∧ (∀ v, member v → v ≤ t.am.vref) ∧ t.am.vrefState = .available ∧ t.am.vrefHold = 0)
      ∧ ((¬∃ v, member v) →
          (s.am.vrefState = .available → t.am.vrefState = .held ∧ t.am.vrefHold = 1 ∧ t.am.vref = s.am.vref)
            ∧ (s.am.vrefState = .held → s.am.vrefHold < s.cfg.shared.vrefHold →
                t.am.vrefState = .held ∧ t.am.vrefHold = s.am.vrefHold + 1 ∧ t.am.vref = s.am.vref)
            ∧ (s.am.vrefState = .held → s.cfg.shared.vrefHold ≤ s.am.vrefHold →
                t.am.vrefState = .unavailable ∧ t.am.vref = 0)
            ∧ (s.am.vrefState = .unavailable → t.am.vrefState = .unavailable ∧ t.am.vref = s.am.vref)))
    ∧ ∀ s : State, operating s.stc.state = false → exec .amEvaluationExpiry s = .next { s with out := outputsOf s }

/-- AM_EVALUATION_EXPIRY of an AXLE station. The speed-sensor fault (R127, R128): 50 consecutive evaluations of a still wheel with
the brake off and the coach moving set the flag, hold L at L_FLOOR and offer SPEED_SENSOR; a pulse in the window clears it, and L
then starts from L_FLOOR with the full suspension. While the flag is clear (R129 to R133): with slip and more than 5 evaluations
since the last cut, L is cut to seven eighths of the braking measure, not below L_FLOOR and never raised; else the suspension runs
out, and then L rises by L_RISE toward L_MAX where there is no slip. -/
def Obligations.SpeedFaultAndAdhesionLimit : Prop :=
  ∀ s : State, operating s.stc.state = true → s.role = .axle →
    let limit := if s.am.faultFlag = true then s.cfg.loc.lFloor else s.am.limit
    let rise := if s.am.faultFlag = true then s.cfg.loc.riseWait else s.am.rise
    let b := if s.pe.plan.ownDrive = true then s.sc.take + s.pe.plan.t1 + s.pe.plan.t2 else s.sc.take
    let spacing := min 255 (s.am.spacing + 1)
    ∃ t, exec .amEvaluationExpiry s = .next t
      ∧ (let moving : Prop := t.am.vrefState ≠ .unavailable ∧ min s.cfg.shared.slipMinSpeed 511 ≤ t.am.vref
        let still : Prop := s.am.w = 0 ∧ s.sc.take = 0 ∧ moving
        let slip : Prop :=
          moving ∧ (s.cfg.shared.slipRatio : Int) * t.am.vref < ((t.am.vref : Int) - s.am.w) * 256 ∧ 0 < b
        (s.am.faultFlag = false → still → 50 ≤ s.am.faultCount + 1 →
            t.am.faultFlag = true ∧ t.am.faultCount = 0 ∧ t.am.limit = s.cfg.loc.lFloor
              ∧ t.stx = (s.offerAlert { code := 5, subject := BitVec.ofNat 8 s.stc.id.val, detail := 0 }).stx)
          ∧ (s.am.faultFlag = false → still → s.am.faultCount + 1 < 50 →
              t.am.faultFlag = false ∧ t.am.faultCount = s.am.faultCount + 1 ∧ t.stx = s.stx)
          ∧ (s.am.faultFlag = false → ¬still → t.am.faultFlag = false ∧ t.am.faultCount = 0 ∧ t.stx = s.stx)
          ∧ (s.am.faultFlag = true → s.am.w = 0 →
              t.am.faultFlag = true ∧ t.am.limit = s.cfg.loc.lFloor ∧ t.am.rise = s.am.rise
                ∧ t.am.spacing = s.am.spacing ∧ t.stx = s.stx)
          ∧ (s.am.faultFlag = true → 0 < s.am.w → t.am.faultFlag = false ∧ t.stx = s.stx)
          ∧ (t.am.faultFlag = false → slip → 5 < spacing →
              t.am.limit = min limit (max s.cfg.loc.lFloor (b * 7 / 8)) ∧ t.am.spacing = 0
                ∧ t.am.rise = s.cfg.loc.riseWait)
          ∧ (t.am.faultFlag = false → ¬(slip ∧ 5 < spacing) → t.am.spacing = spacing)
          ∧ (t.am.faultFlag = false → ¬(slip ∧ 5 < spacing) → 0 < rise → t.am.limit = limit ∧ t.am.rise = rise - 1)
          ∧ (t.am.faultFlag = false → slip → spacing ≤ 5 → rise = 0 → t.am.limit = limit ∧ t.am.rise = 0)
          ∧ (t.am.faultFlag = false → ¬slip → rise = 0 →
              t.am.limit = min s.cfg.loc.lMax (limit + min s.cfg.loc.lRise 2047) ∧ t.am.rise = 0))

/-! ### The sink (chapter 7) -/

/-- SINK_EXPIRY of a RETARDER or AXLE station with the sink NORMAL, FB in range, and the take within SUP_TOL of the command of the
window just closed or out of tolerance for fewer than SUP_PERIODS expiries (R136, R137, R149): the take is measured, the
supervision count is set, C is formed from the new inputs (R108), the command moves down to the target at once or up by at most
SLEW_UP (R142 to R144), DRIVE takes its code (R145), the AXLE's wheel window closes, or the first one opens (R123), and no alert
is offered. That w keeps its value at the expiry that opens the first window is the model's reading (log 7), and so is that a
closed window ends the exclusion of a woken station's own wheel, the field woken (log 6). -/
def Obligations.ProportionalSinkExpiry : Prop :=
  ∀ (s : State) (fb temp : BitVec 10) (pos : BitVec 3), operating s.stc.state = true → s.role ≠ .exhaust →
    s.sc.degraded = false → 10 ≤ fb.toNat → fb.toNat ≤ 1013 →
    let zeroCode := min s.cfg.loc.fbZero 1023
    let gain := s.cfg.loc.fbGain
    let take := min 2047 ((fb.toNat - zeroCode) * gain / 256)
    let within : Prop := |(take : Int) - s.sc.c| ≤ min s.cfg.loc.supTol 2047
    within ∨ min 255 (s.sc.supCount + 1) < max 1 s.cfg.loc.supPeriods →
    ∃ t, exec (.sinkExpiry fb temp pos) s = .next t
      ∧ t = { s with
          inp := { s.inp with fb := fb, temp := temp, pos := pos }
          cu := t.cu, am := t.am
          sc := { s.sc with
            take := take, c := t.sc.c, supCount := t.sc.supCount, tempHoldCount := t.sc.tempHoldCount
            tempHold := t.sc.tempHold }
          out := outputsOf t }
      ∧ (within → t.sc.supCount = 0) ∧ (¬within → t.sc.supCount = min 255 (s.sc.supCount + 1))
      ∧ t.cu = cuForm s.cfg t.am t.sc { s.cu with code := t.cu.code, guarded := t.cu.guarded }
      ∧ (let target :=
          match s.stc.state with
          | .active => s.pe.plan.share
          | .localOnly =>
            if s.role = .axle ∧ s.isSource = true then
              min (s.du.own * s.cfg.loc.weight / 100) (min t.cu.capacity s.am.limit)
            else 0
          | _ => 0
        (target ≤ s.sc.c → t.sc.c = target)
          ∧ (s.sc.c < target → t.sc.c = min target (s.sc.c + min s.cfg.loc.slewUp 2047)))
      ∧ (t.sc.c = 0 → t.out.drive = 0)
      ∧ (0 < t.sc.c → t.out.drive.toNat = min 1023 (zeroCode + (t.sc.c * 256 + gain - 1) / gain))
      ∧ t.out.exs = 0
      ∧ (s.role = .retarder → t.am = s.am)
      ∧ (s.role = .axle → s.am.windowOpen = true →
          t.am = { s.am with
            w := min 511 (s.am.pulses * s.cfg.loc.wheelScale / 256), pulses := 0, woken := false })
      ∧ (s.role = .axle → s.am.windowOpen = false → t.am = { s.am with pulses := 0, windowOpen := true })

/-- SINK_EXPIRY of an EXHAUST station with the sink NORMAL and the flap code at most n: the engine speed of the window (R105; the
first expiry opens the first window), the take and the step value from the capacity of this expiry (R138), and, within tolerance
or out of it for fewer than SUP_PERIODS expiries (R149), the step in force: down at once, up by one after the hold (R146), lowered
where it gives more than the share (R147). It never exceeds the planned step, nor the command the share, and EXS carries it while
DRIVE is 0 (R148). Outside ACTIVE it is 0. That the engine speed keeps its value at the expiry that opens the first
window is the model's reading (log 7). -/
def Obligations.ExhaustSinkExpiry : Prop :=
  ∀ (s : State) (fb temp : BitVec 10) (pos : BitVec 3), operating s.stc.state = true → s.role = .exhaust →
    s.sc.degraded = false → pos.toNat ≤ s.cfg.loc.n →
    let formed := ((s.latchSink fb temp pos).closeWindows.temperatureStage.formCapacity).cu
    let step := formed.capacity / s.cfg.loc.n
    let take := pos.toNat * step
    let within : Prop := |(take : Int) - (s.sc.kNow * step : Nat)| ≤ min s.cfg.loc.supTol 2047
    within ∨ min 255 (s.sc.supCount + 1) < max 1 s.cfg.loc.supPeriods →
    let k := s.pe.plan.step
    let hold := max 1 (min s.cfg.loc.stepHold 50)
    let held : Nat × Nat :=
      if k < s.sc.kNow then (k, 0) else if k = s.sc.kNow then (s.sc.kNow, 0)
      else if s.sc.riseHold + 1 < hold then (s.sc.kNow, s.sc.riseHold + 1) else (s.sc.kNow + 1, 0)
    ∃ t, exec (.sinkExpiry fb temp pos) s = .next t
      ∧ t = { s with
          inp := { s.inp with fb := fb, temp := temp, pos := pos }
          cu := formed
          sc := { s.sc with
            take := take, c := t.sc.kNow * step, kNow := t.sc.kNow, riseHold := t.sc.riseHold, supCount := t.sc.supCount
            tempHoldCount := t.sc.tempHoldCount, tempHold := t.sc.tempHold }
          out := outputsOf t }
      ∧ (within → t.sc.supCount = 0) ∧ (¬within → t.sc.supCount = min 255 (s.sc.supCount + 1))
      ∧ formed = cuForm s.cfg s.am t.sc
          { s.cu with
            code := formed.code, guarded := formed.guarded, engSpeed := formed.engSpeed, engPulses := 0, engOpen := true }
      ∧ (s.cu.engOpen = true → formed.engSpeed = min 255 (s.cu.engPulses * 25 / 8))
      ∧ (s.cu.engOpen = false → formed.engSpeed = s.cu.engSpeed)
      ∧ (s.stc.state = .active →
          (t.sc.kNow, t.sc.riseHold)
              = (if 0 < step ∧ s.pe.plan.share < held.1 * step then (s.pe.plan.share / step, 0) else held)
            ∧ t.sc.kNow ≤ k ∧ t.sc.c ≤ s.pe.plan.share)
      ∧ (s.stc.state ≠ .active → t.sc.kNow = 0 ∧ t.sc.riseHold = 0)
      ∧ t.out.exs = BitVec.ofNat 3 t.sc.kNow ∧ t.out.drive = 0

/-- The temperature stage of a continuous role (R140, R112, R109): a valid reading clears the hold and brings its code into force,
compared with the guard thresholds; an invalid one counts, keeps code and guard, and beyond SENSOR_HOLD sets the flag, with which
C is 0 (R107). An AXLE station does not read TEMP. -/
def Obligations.TemperatureSensorHold : Prop :=
  ∀ (s : State) (fb temp : BitVec 10) (pos : BitVec 3), operating s.stc.state = true →
    let valid : Prop := 10 ≤ temp.toNat ∧ temp.toNat ≤ 1013
    let code : Int := max 0 (min 65535 (s.cfg.loc.tempOffset + (temp.toNat * s.cfg.loc.tempScale / 16 : Nat)))
    ∃ t, exec (.sinkExpiry fb temp pos) s = .next t
      ∧ (s.role ≠ .axle → valid →
          t.sc.tempHoldCount = 0 ∧ t.sc.tempHold = false ∧ (t.cu.code.map fun n => (n : Int)) = some code
            ∧ (s.cu.guarded = false → (t.cu.guarded = true ↔ (s.cfg.loc.guardOn : Int) ≤ code))
            ∧ (s.cu.guarded = true → (t.cu.guarded = true ↔ (s.cfg.loc.guardOff : Int) ≤ code)))
      ∧ (s.role ≠ .axle → ¬valid →
          t.sc.tempHoldCount = min 255 (s.sc.tempHoldCount + 1) ∧ t.cu.code = s.cu.code ∧ t.cu.guarded = s.cu.guarded
            ∧ (t.sc.tempHold = true ↔ s.sc.tempHold = true ∨ s.cfg.loc.sensorHold < s.sc.tempHoldCount + 1))
      ∧ (t.sc.tempHold = true → t.cu.capacity = 0)
      ∧ (s.role = .axle →
          t.sc.tempHoldCount = s.sc.tempHoldCount ∧ t.sc.tempHold = s.sc.tempHold ∧ t.cu.code = s.cu.code
            ∧ t.cu.guarded = s.cu.guarded)

/-- Supervision (R149 to R152): a range fault makes a NORMAL sink DEGRADED at once with cause 2 or 3; SUP_PERIODS consecutive
takes out of tolerance make it so with cause 1, the command of an EXHAUST station being k_now times the step value of this expiry.
Command, step and outputs are 0, C is 0, FAULT is lit, and SINK_DEGRADED is offered once: a DEGRADED sink keeps its cause,
measures its take and offers nothing more. -/
def Obligations.SinkBecomesDegraded : Prop :=
  ∀ (s : State) (fb temp : BitVec 10) (pos : BitVec 3), operating s.stc.state = true →
    let inRange : Prop := if s.role = .exhaust then pos.toNat ≤ s.cfg.loc.n else 10 ≤ fb.toNat ∧ fb.toNat ≤ 1013
    let step := ((s.latchSink fb temp pos).closeWindows.temperatureStage.formCapacity).cu.capacity / s.cfg.loc.n
    let take :=
      if s.role = .exhaust then pos.toNat * step
      else min 2047 ((fb.toNat - min s.cfg.loc.fbZero 1023) * s.cfg.loc.fbGain / 256)
    let commanded := if s.role = .exhaust then s.sc.kNow * step else s.sc.c
    let off : Prop := (min s.cfg.loc.supTol 2047 : Int) < |(take : Int) - commanded|
    let alert (detail : Half) : Alert := { code := 2, subject := BitVec.ofNat 8 s.stc.id.val, detail := detail }
    ∃ t, exec (.sinkExpiry fb temp pos) s = .next t ∧ t.stc = s.stc
      ∧ (t.sc.degraded = true →
          t.sc.c = 0 ∧ (s.sc.degraded = false ∨ s.role = .exhaust → t.sc.kNow = 0) ∧ t.cu.capacity = 0
            ∧ t.out.fault = true ∧ t.out.drive = 0 ∧ t.out.exs = 0)
      ∧ (s.sc.degraded = false → ¬inRange →
          t.sc.degraded = true ∧ t.sc.take = 0 ∧ t.sc.riseHold = 0 ∧ t.sc.supCount = 0
            ∧ (s.role ≠ .exhaust → t.sc.cause = .feedbackRange ∧ t.stx = (s.offerAlert (alert 2)).stx)
            ∧ (s.role = .exhaust → t.sc.cause = .positionRange ∧ t.stx = (s.offerAlert (alert 3)).stx))
      ∧ (s.sc.degraded = false → inRange → off →
          t.sc.take = take
            ∧ (max 1 s.cfg.loc.supPeriods ≤ min 255 (s.sc.supCount + 1) →
                t.sc.degraded = true ∧ t.sc.cause = .tolerance ∧ t.stx = (s.offerAlert (alert 1)).stx)
            ∧ (min 255 (s.sc.supCount + 1) < max 1 s.cfg.loc.supPeriods →
                t.sc.degraded = false ∧ t.sc.supCount = min 255 (s.sc.supCount + 1) ∧ t.stx = s.stx))
      ∧ (s.sc.degraded = true →
          t.sc.degraded = true ∧ t.sc.cause = s.sc.cause ∧ t.stx = s.stx ∧ t.sc.supCount = 0
            ∧ (s.role ≠ .exhaust → inRange → t.sc.take = take) ∧ (s.role = .exhaust → t.sc.take = 0))

/-- The drive code is the inverse of the take (R145, R137): a sink whose feedback reads the drive code it is given, in the range of
a working sensor, returns a take never below the command, and above it by less than FB_GAIN / 256. -/
def Obligations.DriveCodeInvertsTheTake : Prop :=
  ∀ (cfg : Cfg) (c : Nat), 1 ≤ c → c ≤ 2047 → 1 ≤ cfg.loc.fbGain → 10 ≤ driveCode cfg c → driveCode cfg c ≤ 1013 →
    c ≤ feedbackTake cfg (driveCode cfg c) ∧ 256 * (feedbackTake cfg (driveCode cfg c) - c) < cfg.loc.fbGain

/-! ### The station (chapter 8) -/

/-- STC_EVALUATION_EXPIRY in LISTEN, ACTIVE, LOCAL and LEAVING: the warn hold counts down (R173); LISTEN counts to LISTEN_PERIODS
and leaves for ACTIVE, or for LOCAL when SILENT (R160); ACTIVE and LOCAL count the ignition off to PARK_DELAY and leave for LEAVING
and for PARKED (R166, R167); LEAVING counts to 10 and parks (R168). In CONFIG and FAULT nothing happens. -/
def Obligations.StationEvaluation : Prop :=
  ∀ (s : State) (ign : Bool),
    let counted (stc : Stc) (t : State) : Prop :=
      t = { s with stc := { stc with warnHold := s.stc.warnHold - 1 }, inp := { s.inp with ign := ign }, out := outputsOf t }
    let off := if ign then 0 else min 255 (s.stc.ignOffCount + 1)
    let delay := max 1 s.cfg.shared.parkDelay
    ∃ t, exec (.stcEvaluationExpiry ign) s = .next t
      ∧ (s.stc.state = .listen → s.stc.listenCount + 1 < s.cfg.shared.listenPeriods →
          counted { s.stc with listenCount := s.stc.listenCount + 1 } t)
      ∧ (s.stc.state = .listen → s.cfg.shared.listenPeriods ≤ s.stc.listenCount + 1 → s.lp.trouble < 192 →
          t.stc.state = .active ∧ t.sc = { s.sc with supCount := 0 } ∧ t.pe = s.pe ∧ t.du = s.du ∧ t.pt = s.pt
            ∧ t.lp = { s.lp with origin := t.lp.origin } ∧ OriginFollows s t
            ∧ (∀ a rest, s.stx.urgent = .empty → s.stx.queue = a :: rest →
                t.stx = { s.stx with urgent := .pending { stmt := .alert a, seq := none, failed := 0 }, queue := rest })
            ∧ (s.stx.queue = [] ∨ s.stx.urgent ≠ .empty → t.stx = s.stx))
      ∧ (s.stc.state = .listen → s.cfg.shared.listenPeriods ≤ s.stc.listenCount + 1 → 192 ≤ s.lp.trouble →
          t.stc.state = .localOnly ∧ t.stx.queue = [] ∧ t.du.d = 0 ∧ t.lp = s.lp)
      ∧ (s.stc.state = .active ∨ s.stc.state = .localOnly → off < delay → counted { s.stc with ignOffCount := off } t)
      ∧ (s.stc.state = .active → delay ≤ off →
          t.stc = { s.stc with
              state := .leaving, ignOffCount := 0, leaveCount := 0, warnHold := s.stc.warnHold - 1 }
            ∧ t.stx.queue = []
            ∧ (t.stx.urgent = match s.stx.urgent with
              | .sending h _ noRetry => .sending h (some .leave) noRetry
              | _ => .pending { stmt := .leave, seq := none, failed := 0 })
            ∧ isPending t.stx.demand = false ∧ isPending t.stx.standing = false ∧ t.lp.tx = s.lp.tx
            ∧ t.pe.plan.share = 0 ∧ t.du.d = 0 ∧ t.du.own = 0 ∧ t.sc.c = 0 ∧ t.sc.kNow = 0
            ∧ t.out.drive = 0 ∧ t.out.exs = 0)
      ∧ (s.stc.state = .localOnly → delay ≤ off →
          t.stc.state = .parked ∧ t.stc.parkTimer = 0 ∧ t.lp.tx = none ∧ t.lp.trouble = 0 ∧ ∀ j, slotGet t.pt j = none)
      ∧ (s.stc.state = .leaving → s.stc.leaveCount + 1 < 10 →
          counted { s.stc with leaveCount := s.stc.leaveCount + 1 } t)
      ∧ (s.stc.state = .leaving → 10 ≤ s.stc.leaveCount + 1 →
          t.stc.state = (if ign then .listen else .parked) ∧ t.stc.parkTimer = 0 ∧ t.stx.urgent = .empty
            ∧ t.lp.tx = none ∧ ∀ j, slotGet t.pt j = none)
      ∧ (s.stc.state = .config ∨ s.stc.state = .fault →
          t = { s with inp := { s.inp with ign := ign }, out := outputsOf t })

/-- PARKED stays while the ignition is off; with the ignition on the station wakes in one event (R169, R170): park cooling by the
park timer (R120), the code and guard anew for an AXLE and no code for a continuous role (R121), AM and SC at their wake values
(R135, R153, R154), then LISTEN with the line BUSY and the receiver disarmed. Sequence counter, configuration and identity stay.
Another role's estimate stays as it was, which is the model's choice (log 22), and the mark woken, by which the own wheel stays
out of Vref until a window has closed, is its reading of R135 (log 6). -/
def Obligations.WakeFromPark : Prop :=
  ∀ (s : State) (ign : Bool), s.stc.state = .parked →
    let ambient := s.cfg.loc.ambient * 2 ^ 20
    let cold := s.cfg.loc.coldTime
    let cooled :=
      if cold ≤ s.stc.parkTimer then ambient
      else ambient + (s.te.theta - ambient) * (cold - s.stc.parkTimer) / cold
    (ambient ≤ s.te.theta → 1 ≤ cold → ambient ≤ cooled ∧ cooled ≤ s.te.theta)
      ∧ ∃ t, exec (.stcEvaluationExpiry ign) s = .next t
          ∧ (ign = false → t = { s with inp := { s.inp with ign := false }, out := outputsOf t })
          ∧ (ign = true →
              t = { s with
                  stc := { s.stc with state := .listen, listenCount := 0, ignOffCount := 0 }
                  lp := { s.lp with line := .busy, rx := .disarmed }
                  pe := t.pe, te := t.te, cu := t.cu
                  am := { w := 0, pulses := 0, windowOpen := false, woken := true, vref := 0
                          vrefState := .unavailable, vrefHold := 0, limit := t.am.limit, spacing := 255, rise := 0
                          faultCount := 0, faultFlag := false }
                  sc := { c := 0, kNow := 0, riseHold := 0, take := 0, degraded := false, cause := .none, supCount := 0
                          tempHoldCount := 0, tempHold := false }
                  inp := { s.inp with ign := true }, out := outputsOf t }
                ∧ t.cu = cuForm s.cfg t.am t.sc
                    { s.cu with
                      code := if s.role = .axle then some (cooled / 2 ^ 20) else none, guarded := t.cu.guarded
                      engSpeed := 0, engPulses := 0, engOpen := false }
                ∧ t.pe.plan.share = 0 ∧ t.pe.shortfall = false
                ∧ (s.role = .axle →
                    t.te.theta = cooled ∧ t.am.limit = s.cfg.loc.lMax
                      ∧ (s.cu.guarded = true → (t.cu.guarded = true ↔ s.cfg.loc.guardOff ≤ cooled / 2 ^ 20))
                      ∧ (s.cu.guarded = false → (t.cu.guarded = true ↔ s.cfg.loc.guardOn ≤ cooled / 2 ^ 20)))
                ∧ (s.role ≠ .axle →
                    t.te = s.te ∧ t.cu.guarded = s.cu.guarded ∧ t.cu.capacity = 0))

/-- The transitions of the station state (R156's table): whatever command is taken in whatever state, the state stays or changes as
the table gives, by a command at which the cause can arise. PARKED with the ignition on is passed through in one event (R169). The
own identity and the configuration in force change only in or into CONFIG (R157, R158), and FAULT is left only by POWER_ON and
RESETN (R165). -/
def Obligations.StationTransitions : Prop :=
  ∀ (i : Instr) (s t : State), exec i s = .next t →
    let reset : Prop := i = .powerOn ∨ i = .resetn
    let loaded : Prop := ∃ miso, i = .spiTransactionEnd miso
    let evaluated : Prop := ∃ ign, i = .stcEvaluationExpiry ign
    let readBack : Prop := ∃ read ign, i = .characterReadBack read ign
    let received : Prop := ∃ c, i = .characterReceived c
    (reset → t.stc.state = .config)
      ∧ (¬reset →
          (match s.stc.state, t.stc.state with
            | .config, .listen | .config, .fault => loaded
            | .listen, .active => evaluated
            | .listen, .localOnly => evaluated
            | .active, .localOnly => readBack ∨ received
            | .active, .leaving => evaluated
            | .localOnly, .listen => received
            | .localOnly, .parked => evaluated
            | .leaving, .parked | .leaving, .listen => evaluated ∨ readBack
            | .parked, .listen => evaluated
            | .listen, .fault | .active, .fault | .localOnly, .fault | .leaving, .fault => received
            | a, b => a = b)
          ∧ (s.stc.state ≠ .config → t.stc.id = s.stc.id ∧ t.cfg = s.cfg))

/-- The two lamps after any command (R172, R174). -/
def Obligations.LampOutputs : Prop :=
  ∀ (i : Instr) (s t : State), exec i s = .next t →
    (t.out.warn = true ↔
        t.stc.state = .fault ∧ t.stc.cause = .dupId
          ∨ (t.stc.state = .listen ∨ t.stc.state = .active ∨ t.stc.state = .localOnly ∨ t.stc.state = .leaving)
            ∧ (t.pe.shortfall = true ∨ t.cu.guarded = true
              ∨ (∃ j r, slotGet t.pt j = some r ∧ r.state = .fresh ∧ r.guard = true)
              ∨ t.du.phase = .holding ∨ t.du.phase = .ramping ∨ t.du.pedal ≠ .clear ∨ 0 < t.stc.warnHold))
      ∧ (t.out.fault = true ↔
        t.stc.state = .config ∨ t.stc.state = .localOnly ∨ t.stc.state = .fault
          ∨ (t.stc.state = .listen ∨ t.stc.state = .active ∨ t.stc.state = .leaving) ∧ t.sc.degraded = true)

/-! ### What every step keeps -/

/-- Every step keeps the alert queue legal: at most 4 entries, no two with the same code and subject, empty outside LISTEN and
ACTIVE, and no entry waiting behind an EMPTY urgent slot in ACTIVE (R84 to R86). -/
def Obligations.AlertQueueStaysLegal : Prop :=
  ∀ s t : State, AlertQueueLegal s → step s = .next t → AlertQueueLegal t

/-- Every step keeps one frame at a time: a frame is under way exactly for the one slot that is SENDING, it is the frame of that
slot's statement under its number and the own identity, and no statement has more than 2 failed attempts (R81, R83, R90). -/
def Obligations.OneFrameAtATime : Prop := ∀ s t : State, OneFrame s → step s = .next t → OneFrame t

/-- Every step keeps the line's judgements legal: the trouble count in 0 to 255 and the recovery counter below 128, no station in
ACTIVE SILENT and every station in LOCAL SILENT (R98 to R100, R160, R162); a frame being received shorter than its header says. -/
def Obligations.StandingAndReceiverStayLegal : Prop :=
  ∀ s t : State, step s = .next t → (StandingLegal s → StandingLegal t) ∧ (ReceiverLegal s → ReceiverLegal t)

/-- Every step keeps the peer table legal: the own slot EMPTY, FRESH and STALE records of the own profile, MISMATCH records of
another, LEFT and MISMATCH records without demand and alert part, the role part that of the role, and no record in CONFIG, PARKED
and FAULT (R51, R53, R54, R58, R69, R74). -/
def Obligations.PeerTableStaysLegal : Prop := ∀ s t : State, TableLegal s → step s = .next t → TableLegal t

/-- Every step keeps CONFIG, PARKED and FAULT quiet (R50, R101), the plan and shortfall state idle outside ACTIVE (R33, R187), and
a fault cause set exactly in FAULT (R165). -/
def Obligations.QuietStatesHoldNothing : Prop :=
  ∀ s t : State, step s = .next t →
    (QuietLegal s → QuietLegal t) ∧ (PlanLegal s → PlanLegal t) ∧ (CauseLegal s → CauseLegal t)

/-- Every step keeps DU's values in their ranges, D = 0 while UNSOURCED and in LOCAL, and the driver values of a station that is no
demand source clear (chapter 2; R44, R50); the command and the step in force at 0 outside ACTIVE and LOCAL and while DEGRADED, and
in LOCAL but for an AXLE demand source (R142, R144, R146); and the sink DEGRADED exactly while a cause is recorded (R151, R153). -/
def Obligations.DemandAndCommandStayLegal : Prop :=
  ∀ s t : State, step s = .next t →
    (DemandLegal s → DemandLegal t) ∧ (CommandLegal s → CommandLegal t)
      ∧ (LocalCommandLegal s → LocalCommandLegal t) ∧ (DegradedLegal s → DegradedLegal t)

/-- Every step keeps the advertised capacity at most KMAX, and 0 while DEGRADED, while the temperature-hold flag is set and without
a temperature code (R107), and the estimate of a configured AXLE between the ambient reference and the largest code (R113). -/
def Obligations.CapacityAndEstimateStayInRange : Prop :=
  ∀ s t : State, step s = .next t → (CapacityLegal s → CapacityLegal t) ∧ (EstimateLegal s → EstimateLegal t)

/-- Every step keeps the adhesion limit of a configured AXLE between L_FLOOR and L_MAX, at L_FLOOR under a speed fault (R128, R131),
and Vref and the wheel speed within 0 to 511, Vref 0 while unavailable (R125). -/
def Obligations.AdhesionStaysInRange : Prop :=
  ∀ s t : State, step s = .next t → (AdhesionLegal s → AdhesionLegal t) ∧ (SpeedLegal s → SpeedLegal t)
end

