-- ==== Sys2Proof/Laws/State.lean ====
section
/-! SUPPORT. One lemma for each field and each update of State, so that no proof unfolds a record update. -/

namespace Sys2Proof.Machine

section setCfg
variable (s : State) (x : Cfg)
@[simp] theorem setCfg_cfg : (s.setCfg x).cfg = x := rfl
@[simp] theorem setCfg_stc : (s.setCfg x).stc = s.stc := rfl
@[simp] theorem setCfg_loader : (s.setCfg x).loader = s.loader := rfl
@[simp] theorem setCfg_lp : (s.setCfg x).lp = s.lp := rfl
@[simp] theorem setCfg_stx : (s.setCfg x).stx = s.stx := rfl
@[simp] theorem setCfg_pt : (s.setCfg x).pt = s.pt := rfl
@[simp] theorem setCfg_pe : (s.setCfg x).pe = s.pe := rfl
@[simp] theorem setCfg_du : (s.setCfg x).du = s.du := rfl
@[simp] theorem setCfg_cu : (s.setCfg x).cu = s.cu := rfl
@[simp] theorem setCfg_te : (s.setCfg x).te = s.te := rfl
@[simp] theorem setCfg_am : (s.setCfg x).am = s.am := rfl
@[simp] theorem setCfg_sc : (s.setCfg x).sc = s.sc := rfl
@[simp] theorem setCfg_inp : (s.setCfg x).inp = s.inp := rfl
@[simp] theorem setCfg_out : (s.setCfg x).out = s.out := rfl
@[simp] theorem setCfg_pending : (s.setCfg x).pending = s.pending := rfl
end setCfg

section setStc
variable (s : State) (x : Stc)
@[simp] theorem setStc_cfg : (s.setStc x).cfg = s.cfg := rfl
@[simp] theorem setStc_stc : (s.setStc x).stc = x := rfl
@[simp] theorem setStc_loader : (s.setStc x).loader = s.loader := rfl
@[simp] theorem setStc_lp : (s.setStc x).lp = s.lp := rfl
@[simp] theorem setStc_stx : (s.setStc x).stx = s.stx := rfl
@[simp] theorem setStc_pt : (s.setStc x).pt = s.pt := rfl
@[simp] theorem setStc_pe : (s.setStc x).pe = s.pe := rfl
@[simp] theorem setStc_du : (s.setStc x).du = s.du := rfl
@[simp] theorem setStc_cu : (s.setStc x).cu = s.cu := rfl
@[simp] theorem setStc_te : (s.setStc x).te = s.te := rfl
@[simp] theorem setStc_am : (s.setStc x).am = s.am := rfl
@[simp] theorem setStc_sc : (s.setStc x).sc = s.sc := rfl
@[simp] theorem setStc_inp : (s.setStc x).inp = s.inp := rfl
@[simp] theorem setStc_out : (s.setStc x).out = s.out := rfl
@[simp] theorem setStc_pending : (s.setStc x).pending = s.pending := rfl
end setStc

section setLoader
variable (s : State) (x : Loader)
@[simp] theorem setLoader_cfg : (s.setLoader x).cfg = s.cfg := rfl
@[simp] theorem setLoader_stc : (s.setLoader x).stc = s.stc := rfl
@[simp] theorem setLoader_loader : (s.setLoader x).loader = x := rfl
@[simp] theorem setLoader_lp : (s.setLoader x).lp = s.lp := rfl
@[simp] theorem setLoader_stx : (s.setLoader x).stx = s.stx := rfl
@[simp] theorem setLoader_pt : (s.setLoader x).pt = s.pt := rfl
@[simp] theorem setLoader_pe : (s.setLoader x).pe = s.pe := rfl
@[simp] theorem setLoader_du : (s.setLoader x).du = s.du := rfl
@[simp] theorem setLoader_cu : (s.setLoader x).cu = s.cu := rfl
@[simp] theorem setLoader_te : (s.setLoader x).te = s.te := rfl
@[simp] theorem setLoader_am : (s.setLoader x).am = s.am := rfl
@[simp] theorem setLoader_sc : (s.setLoader x).sc = s.sc := rfl
@[simp] theorem setLoader_inp : (s.setLoader x).inp = s.inp := rfl
@[simp] theorem setLoader_out : (s.setLoader x).out = s.out := rfl
@[simp] theorem setLoader_pending : (s.setLoader x).pending = s.pending := rfl
end setLoader

section setLp
variable (s : State) (x : Lp)
@[simp] theorem setLp_cfg : (s.setLp x).cfg = s.cfg := rfl
@[simp] theorem setLp_stc : (s.setLp x).stc = s.stc := rfl
@[simp] theorem setLp_loader : (s.setLp x).loader = s.loader := rfl
@[simp] theorem setLp_lp : (s.setLp x).lp = x := rfl
@[simp] theorem setLp_stx : (s.setLp x).stx = s.stx := rfl
@[simp] theorem setLp_pt : (s.setLp x).pt = s.pt := rfl
@[simp] theorem setLp_pe : (s.setLp x).pe = s.pe := rfl
@[simp] theorem setLp_du : (s.setLp x).du = s.du := rfl
@[simp] theorem setLp_cu : (s.setLp x).cu = s.cu := rfl
@[simp] theorem setLp_te : (s.setLp x).te = s.te := rfl
@[simp] theorem setLp_am : (s.setLp x).am = s.am := rfl
@[simp] theorem setLp_sc : (s.setLp x).sc = s.sc := rfl
@[simp] theorem setLp_inp : (s.setLp x).inp = s.inp := rfl
@[simp] theorem setLp_out : (s.setLp x).out = s.out := rfl
@[simp] theorem setLp_pending : (s.setLp x).pending = s.pending := rfl
end setLp

section setStx
variable (s : State) (x : Stx)
@[simp] theorem setStx_cfg : (s.setStx x).cfg = s.cfg := rfl
@[simp] theorem setStx_stc : (s.setStx x).stc = s.stc := rfl
@[simp] theorem setStx_loader : (s.setStx x).loader = s.loader := rfl
@[simp] theorem setStx_lp : (s.setStx x).lp = s.lp := rfl
@[simp] theorem setStx_stx : (s.setStx x).stx = x := rfl
@[simp] theorem setStx_pt : (s.setStx x).pt = s.pt := rfl
@[simp] theorem setStx_pe : (s.setStx x).pe = s.pe := rfl
@[simp] theorem setStx_du : (s.setStx x).du = s.du := rfl
@[simp] theorem setStx_cu : (s.setStx x).cu = s.cu := rfl
@[simp] theorem setStx_te : (s.setStx x).te = s.te := rfl
@[simp] theorem setStx_am : (s.setStx x).am = s.am := rfl
@[simp] theorem setStx_sc : (s.setStx x).sc = s.sc := rfl
@[simp] theorem setStx_inp : (s.setStx x).inp = s.inp := rfl
@[simp] theorem setStx_out : (s.setStx x).out = s.out := rfl
@[simp] theorem setStx_pending : (s.setStx x).pending = s.pending := rfl
end setStx

section setPt
variable (s : State) (x : PeerTable)
@[simp] theorem setPt_cfg : (s.setPt x).cfg = s.cfg := rfl
@[simp] theorem setPt_stc : (s.setPt x).stc = s.stc := rfl
@[simp] theorem setPt_loader : (s.setPt x).loader = s.loader := rfl
@[simp] theorem setPt_lp : (s.setPt x).lp = s.lp := rfl
@[simp] theorem setPt_stx : (s.setPt x).stx = s.stx := rfl
@[simp] theorem setPt_pt : (s.setPt x).pt = x := rfl
@[simp] theorem setPt_pe : (s.setPt x).pe = s.pe := rfl
@[simp] theorem setPt_du : (s.setPt x).du = s.du := rfl
@[simp] theorem setPt_cu : (s.setPt x).cu = s.cu := rfl
@[simp] theorem setPt_te : (s.setPt x).te = s.te := rfl
@[simp] theorem setPt_am : (s.setPt x).am = s.am := rfl
@[simp] theorem setPt_sc : (s.setPt x).sc = s.sc := rfl
@[simp] theorem setPt_inp : (s.setPt x).inp = s.inp := rfl
@[simp] theorem setPt_out : (s.setPt x).out = s.out := rfl
@[simp] theorem setPt_pending : (s.setPt x).pending = s.pending := rfl
end setPt

section setPe
variable (s : State) (x : Pe)
@[simp] theorem setPe_cfg : (s.setPe x).cfg = s.cfg := rfl
@[simp] theorem setPe_stc : (s.setPe x).stc = s.stc := rfl
@[simp] theorem setPe_loader : (s.setPe x).loader = s.loader := rfl
@[simp] theorem setPe_lp : (s.setPe x).lp = s.lp := rfl
@[simp] theorem setPe_stx : (s.setPe x).stx = s.stx := rfl
@[simp] theorem setPe_pt : (s.setPe x).pt = s.pt := rfl
@[simp] theorem setPe_pe : (s.setPe x).pe = x := rfl
@[simp] theorem setPe_du : (s.setPe x).du = s.du := rfl
@[simp] theorem setPe_cu : (s.setPe x).cu = s.cu := rfl
@[simp] theorem setPe_te : (s.setPe x).te = s.te := rfl
@[simp] theorem setPe_am : (s.setPe x).am = s.am := rfl
@[simp] theorem setPe_sc : (s.setPe x).sc = s.sc := rfl
@[simp] theorem setPe_inp : (s.setPe x).inp = s.inp := rfl
@[simp] theorem setPe_out : (s.setPe x).out = s.out := rfl
@[simp] theorem setPe_pending : (s.setPe x).pending = s.pending := rfl
end setPe

section setDu
variable (s : State) (x : Du)
@[simp] theorem setDu_cfg : (s.setDu x).cfg = s.cfg := rfl
@[simp] theorem setDu_stc : (s.setDu x).stc = s.stc := rfl
@[simp] theorem setDu_loader : (s.setDu x).loader = s.loader := rfl
@[simp] theorem setDu_lp : (s.setDu x).lp = s.lp := rfl
@[simp] theorem setDu_stx : (s.setDu x).stx = s.stx := rfl
@[simp] theorem setDu_pt : (s.setDu x).pt = s.pt := rfl
@[simp] theorem setDu_pe : (s.setDu x).pe = s.pe := rfl
@[simp] theorem setDu_du : (s.setDu x).du = x := rfl
@[simp] theorem setDu_cu : (s.setDu x).cu = s.cu := rfl
@[simp] theorem setDu_te : (s.setDu x).te = s.te := rfl
@[simp] theorem setDu_am : (s.setDu x).am = s.am := rfl
@[simp] theorem setDu_sc : (s.setDu x).sc = s.sc := rfl
@[simp] theorem setDu_inp : (s.setDu x).inp = s.inp := rfl
@[simp] theorem setDu_out : (s.setDu x).out = s.out := rfl
@[simp] theorem setDu_pending : (s.setDu x).pending = s.pending := rfl
end setDu

section setCu
variable (s : State) (x : Cu)
@[simp] theorem setCu_cfg : (s.setCu x).cfg = s.cfg := rfl
@[simp] theorem setCu_stc : (s.setCu x).stc = s.stc := rfl
@[simp] theorem setCu_loader : (s.setCu x).loader = s.loader := rfl
@[simp] theorem setCu_lp : (s.setCu x).lp = s.lp := rfl
@[simp] theorem setCu_stx : (s.setCu x).stx = s.stx := rfl
@[simp] theorem setCu_pt : (s.setCu x).pt = s.pt := rfl
@[simp] theorem setCu_pe : (s.setCu x).pe = s.pe := rfl
@[simp] theorem setCu_du : (s.setCu x).du = s.du := rfl
@[simp] theorem setCu_cu : (s.setCu x).cu = x := rfl
@[simp] theorem setCu_te : (s.setCu x).te = s.te := rfl
@[simp] theorem setCu_am : (s.setCu x).am = s.am := rfl
@[simp] theorem setCu_sc : (s.setCu x).sc = s.sc := rfl
@[simp] theorem setCu_inp : (s.setCu x).inp = s.inp := rfl
@[simp] theorem setCu_out : (s.setCu x).out = s.out := rfl
@[simp] theorem setCu_pending : (s.setCu x).pending = s.pending := rfl
end setCu

section setTe
variable (s : State) (x : Te)
@[simp] theorem setTe_cfg : (s.setTe x).cfg = s.cfg := rfl
@[simp] theorem setTe_stc : (s.setTe x).stc = s.stc := rfl
@[simp] theorem setTe_loader : (s.setTe x).loader = s.loader := rfl
@[simp] theorem setTe_lp : (s.setTe x).lp = s.lp := rfl
@[simp] theorem setTe_stx : (s.setTe x).stx = s.stx := rfl
@[simp] theorem setTe_pt : (s.setTe x).pt = s.pt := rfl
@[simp] theorem setTe_pe : (s.setTe x).pe = s.pe := rfl
@[simp] theorem setTe_du : (s.setTe x).du = s.du := rfl
@[simp] theorem setTe_cu : (s.setTe x).cu = s.cu := rfl
@[simp] theorem setTe_te : (s.setTe x).te = x := rfl
@[simp] theorem setTe_am : (s.setTe x).am = s.am := rfl
@[simp] theorem setTe_sc : (s.setTe x).sc = s.sc := rfl
@[simp] theorem setTe_inp : (s.setTe x).inp = s.inp := rfl
@[simp] theorem setTe_out : (s.setTe x).out = s.out := rfl
@[simp] theorem setTe_pending : (s.setTe x).pending = s.pending := rfl
end setTe

section setAm
variable (s : State) (x : Am)
@[simp] theorem setAm_cfg : (s.setAm x).cfg = s.cfg := rfl
@[simp] theorem setAm_stc : (s.setAm x).stc = s.stc := rfl
@[simp] theorem setAm_loader : (s.setAm x).loader = s.loader := rfl
@[simp] theorem setAm_lp : (s.setAm x).lp = s.lp := rfl
@[simp] theorem setAm_stx : (s.setAm x).stx = s.stx := rfl
@[simp] theorem setAm_pt : (s.setAm x).pt = s.pt := rfl
@[simp] theorem setAm_pe : (s.setAm x).pe = s.pe := rfl
@[simp] theorem setAm_du : (s.setAm x).du = s.du := rfl
@[simp] theorem setAm_cu : (s.setAm x).cu = s.cu := rfl
@[simp] theorem setAm_te : (s.setAm x).te = s.te := rfl
@[simp] theorem setAm_am : (s.setAm x).am = x := rfl
@[simp] theorem setAm_sc : (s.setAm x).sc = s.sc := rfl
@[simp] theorem setAm_inp : (s.setAm x).inp = s.inp := rfl
@[simp] theorem setAm_out : (s.setAm x).out = s.out := rfl
@[simp] theorem setAm_pending : (s.setAm x).pending = s.pending := rfl
end setAm

section setSc
variable (s : State) (x : Sc)
@[simp] theorem setSc_cfg : (s.setSc x).cfg = s.cfg := rfl
@[simp] theorem setSc_stc : (s.setSc x).stc = s.stc := rfl
@[simp] theorem setSc_loader : (s.setSc x).loader = s.loader := rfl
@[simp] theorem setSc_lp : (s.setSc x).lp = s.lp := rfl
@[simp] theorem setSc_stx : (s.setSc x).stx = s.stx := rfl
@[simp] theorem setSc_pt : (s.setSc x).pt = s.pt := rfl
@[simp] theorem setSc_pe : (s.setSc x).pe = s.pe := rfl
@[simp] theorem setSc_du : (s.setSc x).du = s.du := rfl
@[simp] theorem setSc_cu : (s.setSc x).cu = s.cu := rfl
@[simp] theorem setSc_te : (s.setSc x).te = s.te := rfl
@[simp] theorem setSc_am : (s.setSc x).am = s.am := rfl
@[simp] theorem setSc_sc : (s.setSc x).sc = x := rfl
@[simp] theorem setSc_inp : (s.setSc x).inp = s.inp := rfl
@[simp] theorem setSc_out : (s.setSc x).out = s.out := rfl
@[simp] theorem setSc_pending : (s.setSc x).pending = s.pending := rfl
end setSc

section setInp
variable (s : State) (x : InPins)
@[simp] theorem setInp_cfg : (s.setInp x).cfg = s.cfg := rfl
@[simp] theorem setInp_stc : (s.setInp x).stc = s.stc := rfl
@[simp] theorem setInp_loader : (s.setInp x).loader = s.loader := rfl
@[simp] theorem setInp_lp : (s.setInp x).lp = s.lp := rfl
@[simp] theorem setInp_stx : (s.setInp x).stx = s.stx := rfl
@[simp] theorem setInp_pt : (s.setInp x).pt = s.pt := rfl
@[simp] theorem setInp_pe : (s.setInp x).pe = s.pe := rfl
@[simp] theorem setInp_du : (s.setInp x).du = s.du := rfl
@[simp] theorem setInp_cu : (s.setInp x).cu = s.cu := rfl
@[simp] theorem setInp_te : (s.setInp x).te = s.te := rfl
@[simp] theorem setInp_am : (s.setInp x).am = s.am := rfl
@[simp] theorem setInp_sc : (s.setInp x).sc = s.sc := rfl
@[simp] theorem setInp_inp : (s.setInp x).inp = x := rfl
@[simp] theorem setInp_out : (s.setInp x).out = s.out := rfl
@[simp] theorem setInp_pending : (s.setInp x).pending = s.pending := rfl
end setInp

section setOut
variable (s : State) (x : OutPins)
@[simp] theorem setOut_cfg : (s.setOut x).cfg = s.cfg := rfl
@[simp] theorem setOut_stc : (s.setOut x).stc = s.stc := rfl
@[simp] theorem setOut_loader : (s.setOut x).loader = s.loader := rfl
@[simp] theorem setOut_lp : (s.setOut x).lp = s.lp := rfl
@[simp] theorem setOut_stx : (s.setOut x).stx = s.stx := rfl
@[simp] theorem setOut_pt : (s.setOut x).pt = s.pt := rfl
@[simp] theorem setOut_pe : (s.setOut x).pe = s.pe := rfl
@[simp] theorem setOut_du : (s.setOut x).du = s.du := rfl
@[simp] theorem setOut_cu : (s.setOut x).cu = s.cu := rfl
@[simp] theorem setOut_te : (s.setOut x).te = s.te := rfl
@[simp] theorem setOut_am : (s.setOut x).am = s.am := rfl
@[simp] theorem setOut_sc : (s.setOut x).sc = s.sc := rfl
@[simp] theorem setOut_inp : (s.setOut x).inp = s.inp := rfl
@[simp] theorem setOut_out : (s.setOut x).out = x := rfl
@[simp] theorem setOut_pending : (s.setOut x).pending = s.pending := rfl
end setOut

section setPending
variable (s : State) (x : List Instr)
@[simp] theorem setPending_cfg : (s.setPending x).cfg = s.cfg := rfl
@[simp] theorem setPending_stc : (s.setPending x).stc = s.stc := rfl
@[simp] theorem setPending_loader : (s.setPending x).loader = s.loader := rfl
@[simp] theorem setPending_lp : (s.setPending x).lp = s.lp := rfl
@[simp] theorem setPending_stx : (s.setPending x).stx = s.stx := rfl
@[simp] theorem setPending_pt : (s.setPending x).pt = s.pt := rfl
@[simp] theorem setPending_pe : (s.setPending x).pe = s.pe := rfl
@[simp] theorem setPending_du : (s.setPending x).du = s.du := rfl
@[simp] theorem setPending_cu : (s.setPending x).cu = s.cu := rfl
@[simp] theorem setPending_te : (s.setPending x).te = s.te := rfl
@[simp] theorem setPending_am : (s.setPending x).am = s.am := rfl
@[simp] theorem setPending_sc : (s.setPending x).sc = s.sc := rfl
@[simp] theorem setPending_inp : (s.setPending x).inp = s.inp := rfl
@[simp] theorem setPending_out : (s.setPending x).out = s.out := rfl
@[simp] theorem setPending_pending : (s.setPending x).pending = x := rfl
end setPending

end Sys2Proof.Machine
end

