-- ==== Sys2Proof/Laws/Frames.lean ====
section
/-! SUPPORT. The frame of every shared operation: one lemma for each field it leaves alone, so that a proof about a command never unfolds
an operation to learn what it does not touch. -/

namespace Sys2Proof.Machine

section drivePins
variable (s : State)
theorem drivePins_kept :
    (s.drivePins).cfg = s.cfg ∧ (s.drivePins).stc = s.stc ∧ (s.drivePins).loader = s.loader ∧ (s.drivePins).lp = s.lp
      ∧ (s.drivePins).stx = s.stx ∧ (s.drivePins).pt = s.pt ∧ (s.drivePins).pe = s.pe ∧ (s.drivePins).du = s.du
      ∧ (s.drivePins).cu = s.cu ∧ (s.drivePins).te = s.te ∧ (s.drivePins).am = s.am ∧ (s.drivePins).sc = s.sc
      ∧ (s.drivePins).inp = s.inp ∧ (s.drivePins).pending = s.pending := by
  simp [State.drivePins]
@[simp] theorem drivePins_cfg : (s.drivePins).cfg = s.cfg := (drivePins_kept s).1
@[simp] theorem drivePins_stc : (s.drivePins).stc = s.stc := (drivePins_kept s).2.1
@[simp] theorem drivePins_loader : (s.drivePins).loader = s.loader := (drivePins_kept s).2.2.1
@[simp] theorem drivePins_lp : (s.drivePins).lp = s.lp := (drivePins_kept s).2.2.2.1
@[simp] theorem drivePins_stx : (s.drivePins).stx = s.stx := (drivePins_kept s).2.2.2.2.1
@[simp] theorem drivePins_pt : (s.drivePins).pt = s.pt := (drivePins_kept s).2.2.2.2.2.1
@[simp] theorem drivePins_pe : (s.drivePins).pe = s.pe := (drivePins_kept s).2.2.2.2.2.2.1
@[simp] theorem drivePins_du : (s.drivePins).du = s.du := (drivePins_kept s).2.2.2.2.2.2.2.1
@[simp] theorem drivePins_cu : (s.drivePins).cu = s.cu := (drivePins_kept s).2.2.2.2.2.2.2.2.1
@[simp] theorem drivePins_te : (s.drivePins).te = s.te := (drivePins_kept s).2.2.2.2.2.2.2.2.2.1
@[simp] theorem drivePins_am : (s.drivePins).am = s.am := (drivePins_kept s).2.2.2.2.2.2.2.2.2.2.1
@[simp] theorem drivePins_sc : (s.drivePins).sc = s.sc := (drivePins_kept s).2.2.2.2.2.2.2.2.2.2.2.1
@[simp] theorem drivePins_inp : (s.drivePins).inp = s.inp := (drivePins_kept s).2.2.2.2.2.2.2.2.2.2.2.2.1
@[simp] theorem drivePins_pending : (s.drivePins).pending = s.pending := (drivePins_kept s).2.2.2.2.2.2.2.2.2.2.2.2.2
end drivePins

section latchDriver
variable (s : State) (pa pb : BitVec 10) (stk : BitVec 3)
theorem latchDriver_kept :
    (s.latchDriver pa pb stk).cfg = s.cfg ∧ (s.latchDriver pa pb stk).stc = s.stc ∧ (s.latchDriver pa pb stk).loader = s.loader ∧ (s.latchDriver pa pb stk).lp = s.lp
      ∧ (s.latchDriver pa pb stk).stx = s.stx ∧ (s.latchDriver pa pb stk).pt = s.pt ∧ (s.latchDriver pa pb stk).pe = s.pe ∧ (s.latchDriver pa pb stk).du = s.du
      ∧ (s.latchDriver pa pb stk).cu = s.cu ∧ (s.latchDriver pa pb stk).te = s.te ∧ (s.latchDriver pa pb stk).am = s.am ∧ (s.latchDriver pa pb stk).sc = s.sc
      ∧ (s.latchDriver pa pb stk).out = s.out ∧ (s.latchDriver pa pb stk).pending = s.pending := by
  simp [State.latchDriver]
@[simp] theorem latchDriver_cfg : (s.latchDriver pa pb stk).cfg = s.cfg := (latchDriver_kept s pa pb stk).1
@[simp] theorem latchDriver_stc : (s.latchDriver pa pb stk).stc = s.stc := (latchDriver_kept s pa pb stk).2.1
@[simp] theorem latchDriver_loader : (s.latchDriver pa pb stk).loader = s.loader := (latchDriver_kept s pa pb stk).2.2.1
@[simp] theorem latchDriver_lp : (s.latchDriver pa pb stk).lp = s.lp := (latchDriver_kept s pa pb stk).2.2.2.1
@[simp] theorem latchDriver_stx : (s.latchDriver pa pb stk).stx = s.stx := (latchDriver_kept s pa pb stk).2.2.2.2.1
@[simp] theorem latchDriver_pt : (s.latchDriver pa pb stk).pt = s.pt := (latchDriver_kept s pa pb stk).2.2.2.2.2.1
@[simp] theorem latchDriver_pe : (s.latchDriver pa pb stk).pe = s.pe := (latchDriver_kept s pa pb stk).2.2.2.2.2.2.1
@[simp] theorem latchDriver_du : (s.latchDriver pa pb stk).du = s.du := (latchDriver_kept s pa pb stk).2.2.2.2.2.2.2.1
@[simp] theorem latchDriver_cu : (s.latchDriver pa pb stk).cu = s.cu := (latchDriver_kept s pa pb stk).2.2.2.2.2.2.2.2.1
@[simp] theorem latchDriver_te : (s.latchDriver pa pb stk).te = s.te := (latchDriver_kept s pa pb stk).2.2.2.2.2.2.2.2.2.1
@[simp] theorem latchDriver_am : (s.latchDriver pa pb stk).am = s.am := (latchDriver_kept s pa pb stk).2.2.2.2.2.2.2.2.2.2.1
@[simp] theorem latchDriver_sc : (s.latchDriver pa pb stk).sc = s.sc := (latchDriver_kept s pa pb stk).2.2.2.2.2.2.2.2.2.2.2.1
@[simp] theorem latchDriver_out : (s.latchDriver pa pb stk).out = s.out := (latchDriver_kept s pa pb stk).2.2.2.2.2.2.2.2.2.2.2.2.1
@[simp] theorem latchDriver_pending : (s.latchDriver pa pb stk).pending = s.pending := (latchDriver_kept s pa pb stk).2.2.2.2.2.2.2.2.2.2.2.2.2
end latchDriver

section latchSink
variable (s : State) (fb temp : BitVec 10) (pos : BitVec 3)
theorem latchSink_kept :
    (s.latchSink fb temp pos).cfg = s.cfg ∧ (s.latchSink fb temp pos).stc = s.stc ∧ (s.latchSink fb temp pos).loader = s.loader ∧ (s.latchSink fb temp pos).lp = s.lp
      ∧ (s.latchSink fb temp pos).stx = s.stx ∧ (s.latchSink fb temp pos).pt = s.pt ∧ (s.latchSink fb temp pos).pe = s.pe ∧ (s.latchSink fb temp pos).du = s.du
      ∧ (s.latchSink fb temp pos).cu = s.cu ∧ (s.latchSink fb temp pos).te = s.te ∧ (s.latchSink fb temp pos).am = s.am ∧ (s.latchSink fb temp pos).sc = s.sc
      ∧ (s.latchSink fb temp pos).out = s.out ∧ (s.latchSink fb temp pos).pending = s.pending := by
  simp [State.latchSink]
@[simp] theorem latchSink_cfg : (s.latchSink fb temp pos).cfg = s.cfg := (latchSink_kept s fb temp pos).1
@[simp] theorem latchSink_stc : (s.latchSink fb temp pos).stc = s.stc := (latchSink_kept s fb temp pos).2.1
@[simp] theorem latchSink_loader : (s.latchSink fb temp pos).loader = s.loader := (latchSink_kept s fb temp pos).2.2.1
@[simp] theorem latchSink_lp : (s.latchSink fb temp pos).lp = s.lp := (latchSink_kept s fb temp pos).2.2.2.1
@[simp] theorem latchSink_stx : (s.latchSink fb temp pos).stx = s.stx := (latchSink_kept s fb temp pos).2.2.2.2.1
@[simp] theorem latchSink_pt : (s.latchSink fb temp pos).pt = s.pt := (latchSink_kept s fb temp pos).2.2.2.2.2.1
@[simp] theorem latchSink_pe : (s.latchSink fb temp pos).pe = s.pe := (latchSink_kept s fb temp pos).2.2.2.2.2.2.1
@[simp] theorem latchSink_du : (s.latchSink fb temp pos).du = s.du := (latchSink_kept s fb temp pos).2.2.2.2.2.2.2.1
@[simp] theorem latchSink_cu : (s.latchSink fb temp pos).cu = s.cu := (latchSink_kept s fb temp pos).2.2.2.2.2.2.2.2.1
@[simp] theorem latchSink_te : (s.latchSink fb temp pos).te = s.te := (latchSink_kept s fb temp pos).2.2.2.2.2.2.2.2.2.1
@[simp] theorem latchSink_am : (s.latchSink fb temp pos).am = s.am := (latchSink_kept s fb temp pos).2.2.2.2.2.2.2.2.2.2.1
@[simp] theorem latchSink_sc : (s.latchSink fb temp pos).sc = s.sc := (latchSink_kept s fb temp pos).2.2.2.2.2.2.2.2.2.2.2.1
@[simp] theorem latchSink_out : (s.latchSink fb temp pos).out = s.out := (latchSink_kept s fb temp pos).2.2.2.2.2.2.2.2.2.2.2.2.1
@[simp] theorem latchSink_pending : (s.latchSink fb temp pos).pending = s.pending := (latchSink_kept s fb temp pos).2.2.2.2.2.2.2.2.2.2.2.2.2
end latchSink

section latchIgn
variable (s : State) (ign : Bool)
theorem latchIgn_kept :
    (s.latchIgn ign).cfg = s.cfg ∧ (s.latchIgn ign).stc = s.stc ∧ (s.latchIgn ign).loader = s.loader ∧ (s.latchIgn ign).lp = s.lp
      ∧ (s.latchIgn ign).stx = s.stx ∧ (s.latchIgn ign).pt = s.pt ∧ (s.latchIgn ign).pe = s.pe ∧ (s.latchIgn ign).du = s.du
      ∧ (s.latchIgn ign).cu = s.cu ∧ (s.latchIgn ign).te = s.te ∧ (s.latchIgn ign).am = s.am ∧ (s.latchIgn ign).sc = s.sc
      ∧ (s.latchIgn ign).out = s.out ∧ (s.latchIgn ign).pending = s.pending := by
  simp [State.latchIgn]
@[simp] theorem latchIgn_cfg : (s.latchIgn ign).cfg = s.cfg := (latchIgn_kept s ign).1
@[simp] theorem latchIgn_stc : (s.latchIgn ign).stc = s.stc := (latchIgn_kept s ign).2.1
@[simp] theorem latchIgn_loader : (s.latchIgn ign).loader = s.loader := (latchIgn_kept s ign).2.2.1
@[simp] theorem latchIgn_lp : (s.latchIgn ign).lp = s.lp := (latchIgn_kept s ign).2.2.2.1
@[simp] theorem latchIgn_stx : (s.latchIgn ign).stx = s.stx := (latchIgn_kept s ign).2.2.2.2.1
@[simp] theorem latchIgn_pt : (s.latchIgn ign).pt = s.pt := (latchIgn_kept s ign).2.2.2.2.2.1
@[simp] theorem latchIgn_pe : (s.latchIgn ign).pe = s.pe := (latchIgn_kept s ign).2.2.2.2.2.2.1
@[simp] theorem latchIgn_du : (s.latchIgn ign).du = s.du := (latchIgn_kept s ign).2.2.2.2.2.2.2.1
@[simp] theorem latchIgn_cu : (s.latchIgn ign).cu = s.cu := (latchIgn_kept s ign).2.2.2.2.2.2.2.2.1
@[simp] theorem latchIgn_te : (s.latchIgn ign).te = s.te := (latchIgn_kept s ign).2.2.2.2.2.2.2.2.2.1
@[simp] theorem latchIgn_am : (s.latchIgn ign).am = s.am := (latchIgn_kept s ign).2.2.2.2.2.2.2.2.2.2.1
@[simp] theorem latchIgn_sc : (s.latchIgn ign).sc = s.sc := (latchIgn_kept s ign).2.2.2.2.2.2.2.2.2.2.2.1
@[simp] theorem latchIgn_out : (s.latchIgn ign).out = s.out := (latchIgn_kept s ign).2.2.2.2.2.2.2.2.2.2.2.2.1
@[simp] theorem latchIgn_pending : (s.latchIgn ign).pending = s.pending := (latchIgn_kept s ign).2.2.2.2.2.2.2.2.2.2.2.2.2
end latchIgn

section latchResetn
variable (s : State) (level : Bool)
theorem latchResetn_kept :
    (s.latchResetn level).cfg = s.cfg ∧ (s.latchResetn level).stc = s.stc ∧ (s.latchResetn level).loader = s.loader ∧ (s.latchResetn level).lp = s.lp
      ∧ (s.latchResetn level).stx = s.stx ∧ (s.latchResetn level).pt = s.pt ∧ (s.latchResetn level).pe = s.pe ∧ (s.latchResetn level).du = s.du
      ∧ (s.latchResetn level).cu = s.cu ∧ (s.latchResetn level).te = s.te ∧ (s.latchResetn level).am = s.am ∧ (s.latchResetn level).sc = s.sc
      ∧ (s.latchResetn level).out = s.out ∧ (s.latchResetn level).pending = s.pending := by
  simp [State.latchResetn]
@[simp] theorem latchResetn_cfg : (s.latchResetn level).cfg = s.cfg := (latchResetn_kept s level).1
@[simp] theorem latchResetn_stc : (s.latchResetn level).stc = s.stc := (latchResetn_kept s level).2.1
@[simp] theorem latchResetn_loader : (s.latchResetn level).loader = s.loader := (latchResetn_kept s level).2.2.1
@[simp] theorem latchResetn_lp : (s.latchResetn level).lp = s.lp := (latchResetn_kept s level).2.2.2.1
@[simp] theorem latchResetn_stx : (s.latchResetn level).stx = s.stx := (latchResetn_kept s level).2.2.2.2.1
@[simp] theorem latchResetn_pt : (s.latchResetn level).pt = s.pt := (latchResetn_kept s level).2.2.2.2.2.1
@[simp] theorem latchResetn_pe : (s.latchResetn level).pe = s.pe := (latchResetn_kept s level).2.2.2.2.2.2.1
@[simp] theorem latchResetn_du : (s.latchResetn level).du = s.du := (latchResetn_kept s level).2.2.2.2.2.2.2.1
@[simp] theorem latchResetn_cu : (s.latchResetn level).cu = s.cu := (latchResetn_kept s level).2.2.2.2.2.2.2.2.1
@[simp] theorem latchResetn_te : (s.latchResetn level).te = s.te := (latchResetn_kept s level).2.2.2.2.2.2.2.2.2.1
@[simp] theorem latchResetn_am : (s.latchResetn level).am = s.am := (latchResetn_kept s level).2.2.2.2.2.2.2.2.2.2.1
@[simp] theorem latchResetn_sc : (s.latchResetn level).sc = s.sc := (latchResetn_kept s level).2.2.2.2.2.2.2.2.2.2.2.1
@[simp] theorem latchResetn_out : (s.latchResetn level).out = s.out := (latchResetn_kept s level).2.2.2.2.2.2.2.2.2.2.2.2.1
@[simp] theorem latchResetn_pending : (s.latchResetn level).pending = s.pending := (latchResetn_kept s level).2.2.2.2.2.2.2.2.2.2.2.2.2
end latchResetn

section latchStraps
variable (s : State) (straps : BitVec 3)
theorem latchStraps_kept :
    (s.latchStraps straps).cfg = s.cfg ∧ (s.latchStraps straps).stc = s.stc ∧ (s.latchStraps straps).loader = s.loader ∧ (s.latchStraps straps).lp = s.lp
      ∧ (s.latchStraps straps).stx = s.stx ∧ (s.latchStraps straps).pt = s.pt ∧ (s.latchStraps straps).pe = s.pe ∧ (s.latchStraps straps).du = s.du
      ∧ (s.latchStraps straps).cu = s.cu ∧ (s.latchStraps straps).te = s.te ∧ (s.latchStraps straps).am = s.am ∧ (s.latchStraps straps).sc = s.sc
      ∧ (s.latchStraps straps).out = s.out ∧ (s.latchStraps straps).pending = s.pending := by
  simp [State.latchStraps]
@[simp] theorem latchStraps_cfg : (s.latchStraps straps).cfg = s.cfg := (latchStraps_kept s straps).1
@[simp] theorem latchStraps_stc : (s.latchStraps straps).stc = s.stc := (latchStraps_kept s straps).2.1
@[simp] theorem latchStraps_loader : (s.latchStraps straps).loader = s.loader := (latchStraps_kept s straps).2.2.1
@[simp] theorem latchStraps_lp : (s.latchStraps straps).lp = s.lp := (latchStraps_kept s straps).2.2.2.1
@[simp] theorem latchStraps_stx : (s.latchStraps straps).stx = s.stx := (latchStraps_kept s straps).2.2.2.2.1
@[simp] theorem latchStraps_pt : (s.latchStraps straps).pt = s.pt := (latchStraps_kept s straps).2.2.2.2.2.1
@[simp] theorem latchStraps_pe : (s.latchStraps straps).pe = s.pe := (latchStraps_kept s straps).2.2.2.2.2.2.1
@[simp] theorem latchStraps_du : (s.latchStraps straps).du = s.du := (latchStraps_kept s straps).2.2.2.2.2.2.2.1
@[simp] theorem latchStraps_cu : (s.latchStraps straps).cu = s.cu := (latchStraps_kept s straps).2.2.2.2.2.2.2.2.1
@[simp] theorem latchStraps_te : (s.latchStraps straps).te = s.te := (latchStraps_kept s straps).2.2.2.2.2.2.2.2.2.1
@[simp] theorem latchStraps_am : (s.latchStraps straps).am = s.am := (latchStraps_kept s straps).2.2.2.2.2.2.2.2.2.2.1
@[simp] theorem latchStraps_sc : (s.latchStraps straps).sc = s.sc := (latchStraps_kept s straps).2.2.2.2.2.2.2.2.2.2.2.1
@[simp] theorem latchStraps_out : (s.latchStraps straps).out = s.out := (latchStraps_kept s straps).2.2.2.2.2.2.2.2.2.2.2.2.1
@[simp] theorem latchStraps_pending : (s.latchStraps straps).pending = s.pending := (latchStraps_kept s straps).2.2.2.2.2.2.2.2.2.2.2.2.2
end latchStraps

section formCapacity
variable (s : State)
theorem formCapacity_kept :
    (s.formCapacity).cfg = s.cfg ∧ (s.formCapacity).stc = s.stc ∧ (s.formCapacity).loader = s.loader ∧ (s.formCapacity).lp = s.lp
      ∧ (s.formCapacity).stx = s.stx ∧ (s.formCapacity).pt = s.pt ∧ (s.formCapacity).pe = s.pe ∧ (s.formCapacity).du = s.du
      ∧ (s.formCapacity).te = s.te ∧ (s.formCapacity).am = s.am ∧ (s.formCapacity).sc = s.sc ∧ (s.formCapacity).inp = s.inp
      ∧ (s.formCapacity).out = s.out ∧ (s.formCapacity).pending = s.pending := by
  simp [State.formCapacity]
@[simp] theorem formCapacity_cfg : (s.formCapacity).cfg = s.cfg := (formCapacity_kept s).1
@[simp] theorem formCapacity_stc : (s.formCapacity).stc = s.stc := (formCapacity_kept s).2.1
@[simp] theorem formCapacity_loader : (s.formCapacity).loader = s.loader := (formCapacity_kept s).2.2.1
@[simp] theorem formCapacity_lp : (s.formCapacity).lp = s.lp := (formCapacity_kept s).2.2.2.1
@[simp] theorem formCapacity_stx : (s.formCapacity).stx = s.stx := (formCapacity_kept s).2.2.2.2.1
@[simp] theorem formCapacity_pt : (s.formCapacity).pt = s.pt := (formCapacity_kept s).2.2.2.2.2.1
@[simp] theorem formCapacity_pe : (s.formCapacity).pe = s.pe := (formCapacity_kept s).2.2.2.2.2.2.1
@[simp] theorem formCapacity_du : (s.formCapacity).du = s.du := (formCapacity_kept s).2.2.2.2.2.2.2.1
@[simp] theorem formCapacity_te : (s.formCapacity).te = s.te := (formCapacity_kept s).2.2.2.2.2.2.2.2.1
@[simp] theorem formCapacity_am : (s.formCapacity).am = s.am := (formCapacity_kept s).2.2.2.2.2.2.2.2.2.1
@[simp] theorem formCapacity_sc : (s.formCapacity).sc = s.sc := (formCapacity_kept s).2.2.2.2.2.2.2.2.2.2.1
@[simp] theorem formCapacity_inp : (s.formCapacity).inp = s.inp := (formCapacity_kept s).2.2.2.2.2.2.2.2.2.2.2.1
@[simp] theorem formCapacity_out : (s.formCapacity).out = s.out := (formCapacity_kept s).2.2.2.2.2.2.2.2.2.2.2.2.1
@[simp] theorem formCapacity_pending : (s.formCapacity).pending = s.pending := (formCapacity_kept s).2.2.2.2.2.2.2.2.2.2.2.2.2
end formCapacity

section takeEstimate
variable (s : State)
theorem takeEstimate_kept :
    (s.takeEstimate).cfg = s.cfg ∧ (s.takeEstimate).stc = s.stc ∧ (s.takeEstimate).loader = s.loader ∧ (s.takeEstimate).lp = s.lp
      ∧ (s.takeEstimate).stx = s.stx ∧ (s.takeEstimate).pt = s.pt ∧ (s.takeEstimate).pe = s.pe ∧ (s.takeEstimate).du = s.du
      ∧ (s.takeEstimate).te = s.te ∧ (s.takeEstimate).am = s.am ∧ (s.takeEstimate).sc = s.sc ∧ (s.takeEstimate).inp = s.inp
      ∧ (s.takeEstimate).out = s.out ∧ (s.takeEstimate).pending = s.pending := by
  simp [State.takeEstimate]
@[simp] theorem takeEstimate_cfg : (s.takeEstimate).cfg = s.cfg := (takeEstimate_kept s).1
@[simp] theorem takeEstimate_stc : (s.takeEstimate).stc = s.stc := (takeEstimate_kept s).2.1
@[simp] theorem takeEstimate_loader : (s.takeEstimate).loader = s.loader := (takeEstimate_kept s).2.2.1
@[simp] theorem takeEstimate_lp : (s.takeEstimate).lp = s.lp := (takeEstimate_kept s).2.2.2.1
@[simp] theorem takeEstimate_stx : (s.takeEstimate).stx = s.stx := (takeEstimate_kept s).2.2.2.2.1
@[simp] theorem takeEstimate_pt : (s.takeEstimate).pt = s.pt := (takeEstimate_kept s).2.2.2.2.2.1
@[simp] theorem takeEstimate_pe : (s.takeEstimate).pe = s.pe := (takeEstimate_kept s).2.2.2.2.2.2.1
@[simp] theorem takeEstimate_du : (s.takeEstimate).du = s.du := (takeEstimate_kept s).2.2.2.2.2.2.2.1
@[simp] theorem takeEstimate_te : (s.takeEstimate).te = s.te := (takeEstimate_kept s).2.2.2.2.2.2.2.2.1
@[simp] theorem takeEstimate_am : (s.takeEstimate).am = s.am := (takeEstimate_kept s).2.2.2.2.2.2.2.2.2.1
@[simp] theorem takeEstimate_sc : (s.takeEstimate).sc = s.sc := (takeEstimate_kept s).2.2.2.2.2.2.2.2.2.2.1
@[simp] theorem takeEstimate_inp : (s.takeEstimate).inp = s.inp := (takeEstimate_kept s).2.2.2.2.2.2.2.2.2.2.2.1
@[simp] theorem takeEstimate_out : (s.takeEstimate).out = s.out := (takeEstimate_kept s).2.2.2.2.2.2.2.2.2.2.2.2.1
@[simp] theorem takeEstimate_pending : (s.takeEstimate).pending = s.pending := (takeEstimate_kept s).2.2.2.2.2.2.2.2.2.2.2.2.2
end takeEstimate

section putStx
variable (s : State) (x : Stx)
theorem putStx_kept :
    (s.putStx x).cfg = s.cfg ∧ (s.putStx x).stc = s.stc ∧ (s.putStx x).loader = s.loader ∧ (s.putStx x).pt = s.pt
      ∧ (s.putStx x).pe = s.pe ∧ (s.putStx x).du = s.du ∧ (s.putStx x).cu = s.cu ∧ (s.putStx x).te = s.te
      ∧ (s.putStx x).am = s.am ∧ (s.putStx x).sc = s.sc ∧ (s.putStx x).inp = s.inp ∧ (s.putStx x).out = s.out
      ∧ (s.putStx x).pending = s.pending := by
  unfold State.putStx; split <;> simp
@[simp] theorem putStx_cfg : (s.putStx x).cfg = s.cfg := (putStx_kept s x).1
@[simp] theorem putStx_stc : (s.putStx x).stc = s.stc := (putStx_kept s x).2.1
@[simp] theorem putStx_loader : (s.putStx x).loader = s.loader := (putStx_kept s x).2.2.1
@[simp] theorem putStx_pt : (s.putStx x).pt = s.pt := (putStx_kept s x).2.2.2.1
@[simp] theorem putStx_pe : (s.putStx x).pe = s.pe := (putStx_kept s x).2.2.2.2.1
@[simp] theorem putStx_du : (s.putStx x).du = s.du := (putStx_kept s x).2.2.2.2.2.1
@[simp] theorem putStx_cu : (s.putStx x).cu = s.cu := (putStx_kept s x).2.2.2.2.2.2.1
@[simp] theorem putStx_te : (s.putStx x).te = s.te := (putStx_kept s x).2.2.2.2.2.2.2.1
@[simp] theorem putStx_am : (s.putStx x).am = s.am := (putStx_kept s x).2.2.2.2.2.2.2.2.1
@[simp] theorem putStx_sc : (s.putStx x).sc = s.sc := (putStx_kept s x).2.2.2.2.2.2.2.2.2.1
@[simp] theorem putStx_inp : (s.putStx x).inp = s.inp := (putStx_kept s x).2.2.2.2.2.2.2.2.2.2.1
@[simp] theorem putStx_out : (s.putStx x).out = s.out := (putStx_kept s x).2.2.2.2.2.2.2.2.2.2.2.1
@[simp] theorem putStx_pending : (s.putStx x).pending = s.pending := (putStx_kept s x).2.2.2.2.2.2.2.2.2.2.2.2
end putStx

section fillUrgent
variable (s : State)
theorem fillUrgent_kept :
    (s.fillUrgent).cfg = s.cfg ∧ (s.fillUrgent).stc = s.stc ∧ (s.fillUrgent).loader = s.loader ∧ (s.fillUrgent).pt = s.pt
      ∧ (s.fillUrgent).pe = s.pe ∧ (s.fillUrgent).du = s.du ∧ (s.fillUrgent).cu = s.cu ∧ (s.fillUrgent).te = s.te
      ∧ (s.fillUrgent).am = s.am ∧ (s.fillUrgent).sc = s.sc ∧ (s.fillUrgent).inp = s.inp ∧ (s.fillUrgent).out = s.out
      ∧ (s.fillUrgent).pending = s.pending := by
  unfold State.fillUrgent; split <;> simp
@[simp] theorem fillUrgent_cfg : (s.fillUrgent).cfg = s.cfg := (fillUrgent_kept s).1
@[simp] theorem fillUrgent_stc : (s.fillUrgent).stc = s.stc := (fillUrgent_kept s).2.1
@[simp] theorem fillUrgent_loader : (s.fillUrgent).loader = s.loader := (fillUrgent_kept s).2.2.1
@[simp] theorem fillUrgent_pt : (s.fillUrgent).pt = s.pt := (fillUrgent_kept s).2.2.2.1
@[simp] theorem fillUrgent_pe : (s.fillUrgent).pe = s.pe := (fillUrgent_kept s).2.2.2.2.1
@[simp] theorem fillUrgent_du : (s.fillUrgent).du = s.du := (fillUrgent_kept s).2.2.2.2.2.1
@[simp] theorem fillUrgent_cu : (s.fillUrgent).cu = s.cu := (fillUrgent_kept s).2.2.2.2.2.2.1
@[simp] theorem fillUrgent_te : (s.fillUrgent).te = s.te := (fillUrgent_kept s).2.2.2.2.2.2.2.1
@[simp] theorem fillUrgent_am : (s.fillUrgent).am = s.am := (fillUrgent_kept s).2.2.2.2.2.2.2.2.1
@[simp] theorem fillUrgent_sc : (s.fillUrgent).sc = s.sc := (fillUrgent_kept s).2.2.2.2.2.2.2.2.2.1
@[simp] theorem fillUrgent_inp : (s.fillUrgent).inp = s.inp := (fillUrgent_kept s).2.2.2.2.2.2.2.2.2.2.1
@[simp] theorem fillUrgent_out : (s.fillUrgent).out = s.out := (fillUrgent_kept s).2.2.2.2.2.2.2.2.2.2.2.1
@[simp] theorem fillUrgent_pending : (s.fillUrgent).pending = s.pending := (fillUrgent_kept s).2.2.2.2.2.2.2.2.2.2.2.2
end fillUrgent

section offerAlert
variable (s : State) (a : Alert)
theorem offerAlert_kept :
    (s.offerAlert a).cfg = s.cfg ∧ (s.offerAlert a).stc = s.stc ∧ (s.offerAlert a).loader = s.loader ∧ (s.offerAlert a).pt = s.pt
      ∧ (s.offerAlert a).pe = s.pe ∧ (s.offerAlert a).du = s.du ∧ (s.offerAlert a).cu = s.cu ∧ (s.offerAlert a).te = s.te
      ∧ (s.offerAlert a).am = s.am ∧ (s.offerAlert a).sc = s.sc ∧ (s.offerAlert a).inp = s.inp ∧ (s.offerAlert a).out = s.out
      ∧ (s.offerAlert a).pending = s.pending := by
  unfold State.offerAlert; split <;> simp
@[simp] theorem offerAlert_cfg : (s.offerAlert a).cfg = s.cfg := (offerAlert_kept s a).1
@[simp] theorem offerAlert_stc : (s.offerAlert a).stc = s.stc := (offerAlert_kept s a).2.1
@[simp] theorem offerAlert_loader : (s.offerAlert a).loader = s.loader := (offerAlert_kept s a).2.2.1
@[simp] theorem offerAlert_pt : (s.offerAlert a).pt = s.pt := (offerAlert_kept s a).2.2.2.1
@[simp] theorem offerAlert_pe : (s.offerAlert a).pe = s.pe := (offerAlert_kept s a).2.2.2.2.1
@[simp] theorem offerAlert_du : (s.offerAlert a).du = s.du := (offerAlert_kept s a).2.2.2.2.2.1
@[simp] theorem offerAlert_cu : (s.offerAlert a).cu = s.cu := (offerAlert_kept s a).2.2.2.2.2.2.1
@[simp] theorem offerAlert_te : (s.offerAlert a).te = s.te := (offerAlert_kept s a).2.2.2.2.2.2.2.1
@[simp] theorem offerAlert_am : (s.offerAlert a).am = s.am := (offerAlert_kept s a).2.2.2.2.2.2.2.2.1
@[simp] theorem offerAlert_sc : (s.offerAlert a).sc = s.sc := (offerAlert_kept s a).2.2.2.2.2.2.2.2.2.1
@[simp] theorem offerAlert_inp : (s.offerAlert a).inp = s.inp := (offerAlert_kept s a).2.2.2.2.2.2.2.2.2.2.1
@[simp] theorem offerAlert_out : (s.offerAlert a).out = s.out := (offerAlert_kept s a).2.2.2.2.2.2.2.2.2.2.2.1
@[simp] theorem offerAlert_pending : (s.offerAlert a).pending = s.pending := (offerAlert_kept s a).2.2.2.2.2.2.2.2.2.2.2.2
end offerAlert

section offer
variable (s : State) (a : Option Alert)
theorem offer_kept :
    (s.offer a).cfg = s.cfg ∧ (s.offer a).stc = s.stc ∧ (s.offer a).loader = s.loader ∧ (s.offer a).pt = s.pt
      ∧ (s.offer a).pe = s.pe ∧ (s.offer a).du = s.du ∧ (s.offer a).cu = s.cu ∧ (s.offer a).te = s.te
      ∧ (s.offer a).am = s.am ∧ (s.offer a).sc = s.sc ∧ (s.offer a).inp = s.inp ∧ (s.offer a).out = s.out
      ∧ (s.offer a).pending = s.pending := by
  unfold State.offer; split <;> simp
@[simp] theorem offer_cfg : (s.offer a).cfg = s.cfg := (offer_kept s a).1
@[simp] theorem offer_stc : (s.offer a).stc = s.stc := (offer_kept s a).2.1
@[simp] theorem offer_loader : (s.offer a).loader = s.loader := (offer_kept s a).2.2.1
@[simp] theorem offer_pt : (s.offer a).pt = s.pt := (offer_kept s a).2.2.2.1
@[simp] theorem offer_pe : (s.offer a).pe = s.pe := (offer_kept s a).2.2.2.2.1
@[simp] theorem offer_du : (s.offer a).du = s.du := (offer_kept s a).2.2.2.2.2.1
@[simp] theorem offer_cu : (s.offer a).cu = s.cu := (offer_kept s a).2.2.2.2.2.2.1
@[simp] theorem offer_te : (s.offer a).te = s.te := (offer_kept s a).2.2.2.2.2.2.2.1
@[simp] theorem offer_am : (s.offer a).am = s.am := (offer_kept s a).2.2.2.2.2.2.2.2.1
@[simp] theorem offer_sc : (s.offer a).sc = s.sc := (offer_kept s a).2.2.2.2.2.2.2.2.2.1
@[simp] theorem offer_inp : (s.offer a).inp = s.inp := (offer_kept s a).2.2.2.2.2.2.2.2.2.2.1
@[simp] theorem offer_out : (s.offer a).out = s.out := (offer_kept s a).2.2.2.2.2.2.2.2.2.2.2.1
@[simp] theorem offer_pending : (s.offer a).pending = s.pending := (offer_kept s a).2.2.2.2.2.2.2.2.2.2.2.2
end offer

section enterListen
variable (s : State)
theorem enterListen_kept :
    (s.enterListen).cfg = s.cfg ∧ (s.enterListen).loader = s.loader ∧ (s.enterListen).lp = s.lp ∧ (s.enterListen).stx = s.stx
      ∧ (s.enterListen).pt = s.pt ∧ (s.enterListen).du = s.du ∧ (s.enterListen).cu = s.cu ∧ (s.enterListen).te = s.te
      ∧ (s.enterListen).am = s.am ∧ (s.enterListen).inp = s.inp ∧ (s.enterListen).out = s.out ∧ (s.enterListen).pending = s.pending := by
  simp [State.enterListen]
@[simp] theorem enterListen_cfg : (s.enterListen).cfg = s.cfg := (enterListen_kept s).1
@[simp] theorem enterListen_loader : (s.enterListen).loader = s.loader := (enterListen_kept s).2.1
@[simp] theorem enterListen_lp : (s.enterListen).lp = s.lp := (enterListen_kept s).2.2.1
@[simp] theorem enterListen_stx : (s.enterListen).stx = s.stx := (enterListen_kept s).2.2.2.1
@[simp] theorem enterListen_pt : (s.enterListen).pt = s.pt := (enterListen_kept s).2.2.2.2.1
@[simp] theorem enterListen_du : (s.enterListen).du = s.du := (enterListen_kept s).2.2.2.2.2.1
@[simp] theorem enterListen_cu : (s.enterListen).cu = s.cu := (enterListen_kept s).2.2.2.2.2.2.1
@[simp] theorem enterListen_te : (s.enterListen).te = s.te := (enterListen_kept s).2.2.2.2.2.2.2.1
@[simp] theorem enterListen_am : (s.enterListen).am = s.am := (enterListen_kept s).2.2.2.2.2.2.2.2.1
@[simp] theorem enterListen_inp : (s.enterListen).inp = s.inp := (enterListen_kept s).2.2.2.2.2.2.2.2.2.1
@[simp] theorem enterListen_out : (s.enterListen).out = s.out := (enterListen_kept s).2.2.2.2.2.2.2.2.2.2.1
@[simp] theorem enterListen_pending : (s.enterListen).pending = s.pending := (enterListen_kept s).2.2.2.2.2.2.2.2.2.2.2
end enterListen

section enterActive
variable (s : State)
theorem enterActive_kept :
    (s.enterActive).cfg = s.cfg ∧ (s.enterActive).loader = s.loader ∧ (s.enterActive).pt = s.pt ∧ (s.enterActive).pe = s.pe
      ∧ (s.enterActive).du = s.du ∧ (s.enterActive).cu = s.cu ∧ (s.enterActive).te = s.te ∧ (s.enterActive).am = s.am
      ∧ (s.enterActive).inp = s.inp ∧ (s.enterActive).out = s.out ∧ (s.enterActive).pending = s.pending := by
  simp [State.enterActive]
@[simp] theorem enterActive_cfg : (s.enterActive).cfg = s.cfg := (enterActive_kept s).1
@[simp] theorem enterActive_loader : (s.enterActive).loader = s.loader := (enterActive_kept s).2.1
@[simp] theorem enterActive_pt : (s.enterActive).pt = s.pt := (enterActive_kept s).2.2.1
@[simp] theorem enterActive_pe : (s.enterActive).pe = s.pe := (enterActive_kept s).2.2.2.1
@[simp] theorem enterActive_du : (s.enterActive).du = s.du := (enterActive_kept s).2.2.2.2.1
@[simp] theorem enterActive_cu : (s.enterActive).cu = s.cu := (enterActive_kept s).2.2.2.2.2.1
@[simp] theorem enterActive_te : (s.enterActive).te = s.te := (enterActive_kept s).2.2.2.2.2.2.1
@[simp] theorem enterActive_am : (s.enterActive).am = s.am := (enterActive_kept s).2.2.2.2.2.2.2.1
@[simp] theorem enterActive_inp : (s.enterActive).inp = s.inp := (enterActive_kept s).2.2.2.2.2.2.2.2.1
@[simp] theorem enterActive_out : (s.enterActive).out = s.out := (enterActive_kept s).2.2.2.2.2.2.2.2.2.1
@[simp] theorem enterActive_pending : (s.enterActive).pending = s.pending := (enterActive_kept s).2.2.2.2.2.2.2.2.2.2
end enterActive

section enterLocal
variable (s : State)
theorem enterLocal_kept :
    (s.enterLocal).cfg = s.cfg ∧ (s.enterLocal).loader = s.loader ∧ (s.enterLocal).lp = s.lp ∧ (s.enterLocal).pt = s.pt
      ∧ (s.enterLocal).cu = s.cu ∧ (s.enterLocal).te = s.te ∧ (s.enterLocal).am = s.am ∧ (s.enterLocal).inp = s.inp
      ∧ (s.enterLocal).out = s.out ∧ (s.enterLocal).pending = s.pending := by
  simp [State.enterLocal]
@[simp] theorem enterLocal_cfg : (s.enterLocal).cfg = s.cfg := (enterLocal_kept s).1
@[simp] theorem enterLocal_loader : (s.enterLocal).loader = s.loader := (enterLocal_kept s).2.1
@[simp] theorem enterLocal_lp : (s.enterLocal).lp = s.lp := (enterLocal_kept s).2.2.1
@[simp] theorem enterLocal_pt : (s.enterLocal).pt = s.pt := (enterLocal_kept s).2.2.2.1
@[simp] theorem enterLocal_cu : (s.enterLocal).cu = s.cu := (enterLocal_kept s).2.2.2.2.1
@[simp] theorem enterLocal_te : (s.enterLocal).te = s.te := (enterLocal_kept s).2.2.2.2.2.1
@[simp] theorem enterLocal_am : (s.enterLocal).am = s.am := (enterLocal_kept s).2.2.2.2.2.2.1
@[simp] theorem enterLocal_inp : (s.enterLocal).inp = s.inp := (enterLocal_kept s).2.2.2.2.2.2.2.1
@[simp] theorem enterLocal_out : (s.enterLocal).out = s.out := (enterLocal_kept s).2.2.2.2.2.2.2.2.1
@[simp] theorem enterLocal_pending : (s.enterLocal).pending = s.pending := (enterLocal_kept s).2.2.2.2.2.2.2.2.2
end enterLocal

section enterLeaving
variable (s : State)
theorem enterLeaving_kept :
    (s.enterLeaving).cfg = s.cfg ∧ (s.enterLeaving).loader = s.loader ∧ (s.enterLeaving).pt = s.pt ∧ (s.enterLeaving).cu = s.cu
      ∧ (s.enterLeaving).te = s.te ∧ (s.enterLeaving).am = s.am ∧ (s.enterLeaving).inp = s.inp ∧ (s.enterLeaving).out = s.out
      ∧ (s.enterLeaving).pending = s.pending := by
  simp [State.enterLeaving]
@[simp] theorem enterLeaving_cfg : (s.enterLeaving).cfg = s.cfg := (enterLeaving_kept s).1
@[simp] theorem enterLeaving_loader : (s.enterLeaving).loader = s.loader := (enterLeaving_kept s).2.1
@[simp] theorem enterLeaving_pt : (s.enterLeaving).pt = s.pt := (enterLeaving_kept s).2.2.1
@[simp] theorem enterLeaving_cu : (s.enterLeaving).cu = s.cu := (enterLeaving_kept s).2.2.2.1
@[simp] theorem enterLeaving_te : (s.enterLeaving).te = s.te := (enterLeaving_kept s).2.2.2.2.1
@[simp] theorem enterLeaving_am : (s.enterLeaving).am = s.am := (enterLeaving_kept s).2.2.2.2.2.1
@[simp] theorem enterLeaving_inp : (s.enterLeaving).inp = s.inp := (enterLeaving_kept s).2.2.2.2.2.2.1
@[simp] theorem enterLeaving_out : (s.enterLeaving).out = s.out := (enterLeaving_kept s).2.2.2.2.2.2.2.1
@[simp] theorem enterLeaving_pending : (s.enterLeaving).pending = s.pending := (enterLeaving_kept s).2.2.2.2.2.2.2.2
end enterLeaving

section enterFault
variable (s : State) (cause : FaultCause)
theorem enterFault_kept :
    (s.enterFault cause).cfg = s.cfg ∧ (s.enterFault cause).loader = s.loader ∧ (s.enterFault cause).cu = s.cu ∧ (s.enterFault cause).te = s.te
      ∧ (s.enterFault cause).am = s.am ∧ (s.enterFault cause).inp = s.inp ∧ (s.enterFault cause).out = s.out ∧ (s.enterFault cause).pending = s.pending := by
  simp [State.enterFault]
@[simp] theorem enterFault_cfg : (s.enterFault cause).cfg = s.cfg := (enterFault_kept s cause).1
@[simp] theorem enterFault_loader : (s.enterFault cause).loader = s.loader := (enterFault_kept s cause).2.1
@[simp] theorem enterFault_cu : (s.enterFault cause).cu = s.cu := (enterFault_kept s cause).2.2.1
@[simp] theorem enterFault_te : (s.enterFault cause).te = s.te := (enterFault_kept s cause).2.2.2.1
@[simp] theorem enterFault_am : (s.enterFault cause).am = s.am := (enterFault_kept s cause).2.2.2.2.1
@[simp] theorem enterFault_inp : (s.enterFault cause).inp = s.inp := (enterFault_kept s cause).2.2.2.2.2.1
@[simp] theorem enterFault_out : (s.enterFault cause).out = s.out := (enterFault_kept s cause).2.2.2.2.2.2.1
@[simp] theorem enterFault_pending : (s.enterFault cause).pending = s.pending := (enterFault_kept s cause).2.2.2.2.2.2.2
end enterFault

section startCapacity
variable (s : State) (theta : Nat)
theorem startCapacity_kept :
    (s.startCapacity theta).cfg = s.cfg ∧ (s.startCapacity theta).stc = s.stc ∧ (s.startCapacity theta).loader = s.loader ∧ (s.startCapacity theta).lp = s.lp
      ∧ (s.startCapacity theta).stx = s.stx ∧ (s.startCapacity theta).pt = s.pt ∧ (s.startCapacity theta).pe = s.pe ∧ (s.startCapacity theta).du = s.du
      ∧ (s.startCapacity theta).am = s.am ∧ (s.startCapacity theta).sc = s.sc ∧ (s.startCapacity theta).inp = s.inp ∧ (s.startCapacity theta).out = s.out
      ∧ (s.startCapacity theta).pending = s.pending := by
  unfold State.startCapacity; split <;> simp
@[simp] theorem startCapacity_cfg : (s.startCapacity theta).cfg = s.cfg := (startCapacity_kept s theta).1
@[simp] theorem startCapacity_stc : (s.startCapacity theta).stc = s.stc := (startCapacity_kept s theta).2.1
@[simp] theorem startCapacity_loader : (s.startCapacity theta).loader = s.loader := (startCapacity_kept s theta).2.2.1
@[simp] theorem startCapacity_lp : (s.startCapacity theta).lp = s.lp := (startCapacity_kept s theta).2.2.2.1
@[simp] theorem startCapacity_stx : (s.startCapacity theta).stx = s.stx := (startCapacity_kept s theta).2.2.2.2.1
@[simp] theorem startCapacity_pt : (s.startCapacity theta).pt = s.pt := (startCapacity_kept s theta).2.2.2.2.2.1
@[simp] theorem startCapacity_pe : (s.startCapacity theta).pe = s.pe := (startCapacity_kept s theta).2.2.2.2.2.2.1
@[simp] theorem startCapacity_du : (s.startCapacity theta).du = s.du := (startCapacity_kept s theta).2.2.2.2.2.2.2.1
@[simp] theorem startCapacity_am : (s.startCapacity theta).am = s.am := (startCapacity_kept s theta).2.2.2.2.2.2.2.2.1
@[simp] theorem startCapacity_sc : (s.startCapacity theta).sc = s.sc := (startCapacity_kept s theta).2.2.2.2.2.2.2.2.2.1
@[simp] theorem startCapacity_inp : (s.startCapacity theta).inp = s.inp := (startCapacity_kept s theta).2.2.2.2.2.2.2.2.2.2.1
@[simp] theorem startCapacity_out : (s.startCapacity theta).out = s.out := (startCapacity_kept s theta).2.2.2.2.2.2.2.2.2.2.2.1
@[simp] theorem startCapacity_pending : (s.startCapacity theta).pending = s.pending := (startCapacity_kept s theta).2.2.2.2.2.2.2.2.2.2.2.2
end startCapacity

section wake
variable (s : State)
theorem wake_kept :
    (s.wake).cfg = s.cfg ∧ (s.wake).loader = s.loader ∧ (s.wake).stx = s.stx ∧ (s.wake).pt = s.pt
      ∧ (s.wake).du = s.du ∧ (s.wake).inp = s.inp ∧ (s.wake).out = s.out ∧ (s.wake).pending = s.pending := by
  simp [State.wake]
@[simp] theorem wake_cfg : (s.wake).cfg = s.cfg := (wake_kept s).1
@[simp] theorem wake_loader : (s.wake).loader = s.loader := (wake_kept s).2.1
@[simp] theorem wake_stx : (s.wake).stx = s.stx := (wake_kept s).2.2.1
@[simp] theorem wake_pt : (s.wake).pt = s.pt := (wake_kept s).2.2.2.1
@[simp] theorem wake_du : (s.wake).du = s.du := (wake_kept s).2.2.2.2.1
@[simp] theorem wake_inp : (s.wake).inp = s.inp := (wake_kept s).2.2.2.2.2.1
@[simp] theorem wake_out : (s.wake).out = s.out := (wake_kept s).2.2.2.2.2.2.1
@[simp] theorem wake_pending : (s.wake).pending = s.pending := (wake_kept s).2.2.2.2.2.2.2
end wake

section park
variable (s : State)
theorem park_kept :
    (s.park).cfg = s.cfg ∧ (s.park).loader = s.loader ∧ (s.park).cu = s.cu ∧ (s.park).te = s.te
      ∧ (s.park).am = s.am ∧ (s.park).inp = s.inp ∧ (s.park).out = s.out ∧ (s.park).pending = s.pending := by
  simp [State.park]
@[simp] theorem park_cfg : (s.park).cfg = s.cfg := (park_kept s).1
@[simp] theorem park_loader : (s.park).loader = s.loader := (park_kept s).2.1
@[simp] theorem park_cu : (s.park).cu = s.cu := (park_kept s).2.2.1
@[simp] theorem park_te : (s.park).te = s.te := (park_kept s).2.2.2.1
@[simp] theorem park_am : (s.park).am = s.am := (park_kept s).2.2.2.2.1
@[simp] theorem park_inp : (s.park).inp = s.inp := (park_kept s).2.2.2.2.2.1
@[simp] theorem park_out : (s.park).out = s.out := (park_kept s).2.2.2.2.2.2.1
@[simp] theorem park_pending : (s.park).pending = s.pending := (park_kept s).2.2.2.2.2.2.2
end park

section enterParked
variable (s : State)
theorem enterParked_kept :
    (s.enterParked).cfg = s.cfg ∧ (s.enterParked).loader = s.loader ∧ (s.enterParked).inp = s.inp ∧ (s.enterParked).out = s.out
      ∧ (s.enterParked).pending = s.pending := by
  unfold State.enterParked; split <;> simp
@[simp] theorem enterParked_cfg : (s.enterParked).cfg = s.cfg := (enterParked_kept s).1
@[simp] theorem enterParked_loader : (s.enterParked).loader = s.loader := (enterParked_kept s).2.1
@[simp] theorem enterParked_inp : (s.enterParked).inp = s.inp := (enterParked_kept s).2.2.1
@[simp] theorem enterParked_out : (s.enterParked).out = s.out := (enterParked_kept s).2.2.2.1
@[simp] theorem enterParked_pending : (s.enterParked).pending = s.pending := (enterParked_kept s).2.2.2.2
end enterParked

section putInForce
variable (s : State) (c : Cfg)
theorem putInForce_kept :
    (s.putInForce c).loader = s.loader ∧ (s.putInForce c).stx = s.stx ∧ (s.putInForce c).pt = s.pt ∧ (s.putInForce c).du = s.du
      ∧ (s.putInForce c).inp = s.inp ∧ (s.putInForce c).out = s.out ∧ (s.putInForce c).pending = s.pending := by
  simp [State.putInForce]
@[simp] theorem putInForce_loader : (s.putInForce c).loader = s.loader := (putInForce_kept s c).1
@[simp] theorem putInForce_stx : (s.putInForce c).stx = s.stx := (putInForce_kept s c).2.1
@[simp] theorem putInForce_pt : (s.putInForce c).pt = s.pt := (putInForce_kept s c).2.2.1
@[simp] theorem putInForce_du : (s.putInForce c).du = s.du := (putInForce_kept s c).2.2.2.1
@[simp] theorem putInForce_inp : (s.putInForce c).inp = s.inp := (putInForce_kept s c).2.2.2.2.1
@[simp] theorem putInForce_out : (s.putInForce c).out = s.out := (putInForce_kept s c).2.2.2.2.2.1
@[simp] theorem putInForce_pending : (s.putInForce c).pending = s.pending := (putInForce_kept s c).2.2.2.2.2.2
end putInForce

section takeStanding
variable (s : State) (before : Standing)
theorem takeStanding_kept :
    (s.takeStanding before).cfg = s.cfg ∧ (s.takeStanding before).loader = s.loader ∧ (s.takeStanding before).lp = s.lp ∧ (s.takeStanding before).pt = s.pt
      ∧ (s.takeStanding before).cu = s.cu ∧ (s.takeStanding before).te = s.te ∧ (s.takeStanding before).am = s.am ∧ (s.takeStanding before).inp = s.inp
      ∧ (s.takeStanding before).out = s.out ∧ (s.takeStanding before).pending = s.pending := by
  unfold State.takeStanding; split <;> (try split) <;> simp
@[simp] theorem takeStanding_cfg : (s.takeStanding before).cfg = s.cfg := (takeStanding_kept s before).1
@[simp] theorem takeStanding_loader : (s.takeStanding before).loader = s.loader := (takeStanding_kept s before).2.1
@[simp] theorem takeStanding_lp : (s.takeStanding before).lp = s.lp := (takeStanding_kept s before).2.2.1
@[simp] theorem takeStanding_pt : (s.takeStanding before).pt = s.pt := (takeStanding_kept s before).2.2.2.1
@[simp] theorem takeStanding_cu : (s.takeStanding before).cu = s.cu := (takeStanding_kept s before).2.2.2.2.1
@[simp] theorem takeStanding_te : (s.takeStanding before).te = s.te := (takeStanding_kept s before).2.2.2.2.2.1
@[simp] theorem takeStanding_am : (s.takeStanding before).am = s.am := (takeStanding_kept s before).2.2.2.2.2.2.1
@[simp] theorem takeStanding_inp : (s.takeStanding before).inp = s.inp := (takeStanding_kept s before).2.2.2.2.2.2.2.1
@[simp] theorem takeStanding_out : (s.takeStanding before).out = s.out := (takeStanding_kept s before).2.2.2.2.2.2.2.2.1
@[simp] theorem takeStanding_pending : (s.takeStanding before).pending = s.pending := (takeStanding_kept s before).2.2.2.2.2.2.2.2.2
end takeStanding

section countLp
variable (s : State) (lp : Lp)
theorem countLp_kept :
    (s.countLp lp).cfg = s.cfg ∧ (s.countLp lp).loader = s.loader ∧ (s.countLp lp).pt = s.pt ∧ (s.countLp lp).cu = s.cu
      ∧ (s.countLp lp).te = s.te ∧ (s.countLp lp).am = s.am ∧ (s.countLp lp).inp = s.inp ∧ (s.countLp lp).out = s.out
      ∧ (s.countLp lp).pending = s.pending := by
  simp [State.countLp]
@[simp] theorem countLp_cfg : (s.countLp lp).cfg = s.cfg := (countLp_kept s lp).1
@[simp] theorem countLp_loader : (s.countLp lp).loader = s.loader := (countLp_kept s lp).2.1
@[simp] theorem countLp_pt : (s.countLp lp).pt = s.pt := (countLp_kept s lp).2.2.1
@[simp] theorem countLp_cu : (s.countLp lp).cu = s.cu := (countLp_kept s lp).2.2.2.1
@[simp] theorem countLp_te : (s.countLp lp).te = s.te := (countLp_kept s lp).2.2.2.2.1
@[simp] theorem countLp_am : (s.countLp lp).am = s.am := (countLp_kept s lp).2.2.2.2.2.1
@[simp] theorem countLp_inp : (s.countLp lp).inp = s.inp := (countLp_kept s lp).2.2.2.2.2.2.1
@[simp] theorem countLp_out : (s.countLp lp).out = s.out := (countLp_kept s lp).2.2.2.2.2.2.2.1
@[simp] theorem countLp_pending : (s.countLp lp).pending = s.pending := (countLp_kept s lp).2.2.2.2.2.2.2.2
end countLp

end Sys2Proof.Machine
end

