-- ==== Sys2Proof/Laws/CommandFrames.lean ====
section
/-! SUPPORT. The frame of the work of every command: one lemma for each field it leaves alone. -/

namespace Sys2Proof.Machine

section planNow
variable (s : State)
theorem planNow_kept :
    (s.planNow).cfg = s.cfg ∧ (s.planNow).stc = s.stc ∧ (s.planNow).loader = s.loader ∧ (s.planNow).pt = s.pt
      ∧ (s.planNow).du = s.du ∧ (s.planNow).cu = s.cu ∧ (s.planNow).te = s.te ∧ (s.planNow).am = s.am
      ∧ (s.planNow).sc = s.sc ∧ (s.planNow).inp = s.inp ∧ (s.planNow).out = s.out ∧ (s.planNow).pending = s.pending := by
  simp [State.planNow]
@[simp] theorem planNow_cfg : (s.planNow).cfg = s.cfg := (planNow_kept s).1
@[simp] theorem planNow_stc : (s.planNow).stc = s.stc := (planNow_kept s).2.1
@[simp] theorem planNow_loader : (s.planNow).loader = s.loader := (planNow_kept s).2.2.1
@[simp] theorem planNow_pt : (s.planNow).pt = s.pt := (planNow_kept s).2.2.2.1
@[simp] theorem planNow_du : (s.planNow).du = s.du := (planNow_kept s).2.2.2.2.1
@[simp] theorem planNow_cu : (s.planNow).cu = s.cu := (planNow_kept s).2.2.2.2.2.1
@[simp] theorem planNow_te : (s.planNow).te = s.te := (planNow_kept s).2.2.2.2.2.2.1
@[simp] theorem planNow_am : (s.planNow).am = s.am := (planNow_kept s).2.2.2.2.2.2.2.1
@[simp] theorem planNow_sc : (s.planNow).sc = s.sc := (planNow_kept s).2.2.2.2.2.2.2.2.1
@[simp] theorem planNow_inp : (s.planNow).inp = s.inp := (planNow_kept s).2.2.2.2.2.2.2.2.2.1
@[simp] theorem planNow_out : (s.planNow).out = s.out := (planNow_kept s).2.2.2.2.2.2.2.2.2.2.1
@[simp] theorem planNow_pending : (s.planNow).pending = s.pending := (planNow_kept s).2.2.2.2.2.2.2.2.2.2.2
end planNow

section peerArrives
variable (s : State) (id : Ident) (seq : BitVec 8) (stmt : Statement)
theorem peerArrives_kept :
    (s.peerArrives id seq stmt).cfg = s.cfg ∧ (s.peerArrives id seq stmt).stc = s.stc ∧ (s.peerArrives id seq stmt).loader = s.loader ∧ (s.peerArrives id seq stmt).pe = s.pe
      ∧ (s.peerArrives id seq stmt).du = s.du ∧ (s.peerArrives id seq stmt).cu = s.cu ∧ (s.peerArrives id seq stmt).te = s.te ∧ (s.peerArrives id seq stmt).am = s.am
      ∧ (s.peerArrives id seq stmt).sc = s.sc ∧ (s.peerArrives id seq stmt).inp = s.inp ∧ (s.peerArrives id seq stmt).out = s.out ∧ (s.peerArrives id seq stmt).pending = s.pending := by
  simp [State.peerArrives]
@[simp] theorem peerArrives_cfg : (s.peerArrives id seq stmt).cfg = s.cfg := (peerArrives_kept s id seq stmt).1
@[simp] theorem peerArrives_stc : (s.peerArrives id seq stmt).stc = s.stc := (peerArrives_kept s id seq stmt).2.1
@[simp] theorem peerArrives_loader : (s.peerArrives id seq stmt).loader = s.loader := (peerArrives_kept s id seq stmt).2.2.1
@[simp] theorem peerArrives_pe : (s.peerArrives id seq stmt).pe = s.pe := (peerArrives_kept s id seq stmt).2.2.2.1
@[simp] theorem peerArrives_du : (s.peerArrives id seq stmt).du = s.du := (peerArrives_kept s id seq stmt).2.2.2.2.1
@[simp] theorem peerArrives_cu : (s.peerArrives id seq stmt).cu = s.cu := (peerArrives_kept s id seq stmt).2.2.2.2.2.1
@[simp] theorem peerArrives_te : (s.peerArrives id seq stmt).te = s.te := (peerArrives_kept s id seq stmt).2.2.2.2.2.2.1
@[simp] theorem peerArrives_am : (s.peerArrives id seq stmt).am = s.am := (peerArrives_kept s id seq stmt).2.2.2.2.2.2.2.1
@[simp] theorem peerArrives_sc : (s.peerArrives id seq stmt).sc = s.sc := (peerArrives_kept s id seq stmt).2.2.2.2.2.2.2.2.1
@[simp] theorem peerArrives_inp : (s.peerArrives id seq stmt).inp = s.inp := (peerArrives_kept s id seq stmt).2.2.2.2.2.2.2.2.2.1
@[simp] theorem peerArrives_out : (s.peerArrives id seq stmt).out = s.out := (peerArrives_kept s id seq stmt).2.2.2.2.2.2.2.2.2.2.1
@[simp] theorem peerArrives_pending : (s.peerArrives id seq stmt).pending = s.pending := (peerArrives_kept s id seq stmt).2.2.2.2.2.2.2.2.2.2.2
end peerArrives

section evaluateDemand
variable (s : State)
theorem evaluateDemand_kept :
    (s.evaluateDemand).cfg = s.cfg ∧ (s.evaluateDemand).stc = s.stc ∧ (s.evaluateDemand).loader = s.loader ∧ (s.evaluateDemand).pt = s.pt
      ∧ (s.evaluateDemand).pe = s.pe ∧ (s.evaluateDemand).cu = s.cu ∧ (s.evaluateDemand).te = s.te ∧ (s.evaluateDemand).am = s.am
      ∧ (s.evaluateDemand).sc = s.sc ∧ (s.evaluateDemand).inp = s.inp ∧ (s.evaluateDemand).out = s.out ∧ (s.evaluateDemand).pending = s.pending := by
  simp [State.evaluateDemand]
@[simp] theorem evaluateDemand_cfg : (s.evaluateDemand).cfg = s.cfg := (evaluateDemand_kept s).1
@[simp] theorem evaluateDemand_stc : (s.evaluateDemand).stc = s.stc := (evaluateDemand_kept s).2.1
@[simp] theorem evaluateDemand_loader : (s.evaluateDemand).loader = s.loader := (evaluateDemand_kept s).2.2.1
@[simp] theorem evaluateDemand_pt : (s.evaluateDemand).pt = s.pt := (evaluateDemand_kept s).2.2.2.1
@[simp] theorem evaluateDemand_pe : (s.evaluateDemand).pe = s.pe := (evaluateDemand_kept s).2.2.2.2.1
@[simp] theorem evaluateDemand_cu : (s.evaluateDemand).cu = s.cu := (evaluateDemand_kept s).2.2.2.2.2.1
@[simp] theorem evaluateDemand_te : (s.evaluateDemand).te = s.te := (evaluateDemand_kept s).2.2.2.2.2.2.1
@[simp] theorem evaluateDemand_am : (s.evaluateDemand).am = s.am := (evaluateDemand_kept s).2.2.2.2.2.2.2.1
@[simp] theorem evaluateDemand_sc : (s.evaluateDemand).sc = s.sc := (evaluateDemand_kept s).2.2.2.2.2.2.2.2.1
@[simp] theorem evaluateDemand_inp : (s.evaluateDemand).inp = s.inp := (evaluateDemand_kept s).2.2.2.2.2.2.2.2.2.1
@[simp] theorem evaluateDemand_out : (s.evaluateDemand).out = s.out := (evaluateDemand_kept s).2.2.2.2.2.2.2.2.2.2.1
@[simp] theorem evaluateDemand_pending : (s.evaluateDemand).pending = s.pending := (evaluateDemand_kept s).2.2.2.2.2.2.2.2.2.2.2
end evaluateDemand

section evaluateAdhesion
variable (s : State)
theorem evaluateAdhesion_kept :
    (s.evaluateAdhesion).cfg = s.cfg ∧ (s.evaluateAdhesion).stc = s.stc ∧ (s.evaluateAdhesion).loader = s.loader ∧ (s.evaluateAdhesion).pt = s.pt
      ∧ (s.evaluateAdhesion).pe = s.pe ∧ (s.evaluateAdhesion).du = s.du ∧ (s.evaluateAdhesion).te = s.te ∧ (s.evaluateAdhesion).sc = s.sc
      ∧ (s.evaluateAdhesion).inp = s.inp ∧ (s.evaluateAdhesion).out = s.out ∧ (s.evaluateAdhesion).pending = s.pending := by
  by_cases h : s.role = .retarder <;> simp [State.evaluateAdhesion, h]
@[simp] theorem evaluateAdhesion_cfg : (s.evaluateAdhesion).cfg = s.cfg := (evaluateAdhesion_kept s).1
@[simp] theorem evaluateAdhesion_stc : (s.evaluateAdhesion).stc = s.stc := (evaluateAdhesion_kept s).2.1
@[simp] theorem evaluateAdhesion_loader : (s.evaluateAdhesion).loader = s.loader := (evaluateAdhesion_kept s).2.2.1
@[simp] theorem evaluateAdhesion_pt : (s.evaluateAdhesion).pt = s.pt := (evaluateAdhesion_kept s).2.2.2.1
@[simp] theorem evaluateAdhesion_pe : (s.evaluateAdhesion).pe = s.pe := (evaluateAdhesion_kept s).2.2.2.2.1
@[simp] theorem evaluateAdhesion_du : (s.evaluateAdhesion).du = s.du := (evaluateAdhesion_kept s).2.2.2.2.2.1
@[simp] theorem evaluateAdhesion_te : (s.evaluateAdhesion).te = s.te := (evaluateAdhesion_kept s).2.2.2.2.2.2.1
@[simp] theorem evaluateAdhesion_sc : (s.evaluateAdhesion).sc = s.sc := (evaluateAdhesion_kept s).2.2.2.2.2.2.2.1
@[simp] theorem evaluateAdhesion_inp : (s.evaluateAdhesion).inp = s.inp := (evaluateAdhesion_kept s).2.2.2.2.2.2.2.2.1
@[simp] theorem evaluateAdhesion_out : (s.evaluateAdhesion).out = s.out := (evaluateAdhesion_kept s).2.2.2.2.2.2.2.2.2.1
@[simp] theorem evaluateAdhesion_pending : (s.evaluateAdhesion).pending = s.pending := (evaluateAdhesion_kept s).2.2.2.2.2.2.2.2.2.2
end evaluateAdhesion

section closeWindows
variable (s : State)
theorem closeWindows_kept :
    (s.closeWindows).cfg = s.cfg ∧ (s.closeWindows).stc = s.stc ∧ (s.closeWindows).loader = s.loader ∧ (s.closeWindows).lp = s.lp
      ∧ (s.closeWindows).stx = s.stx ∧ (s.closeWindows).pt = s.pt ∧ (s.closeWindows).pe = s.pe ∧ (s.closeWindows).du = s.du
      ∧ (s.closeWindows).te = s.te ∧ (s.closeWindows).sc = s.sc ∧ (s.closeWindows).inp = s.inp ∧ (s.closeWindows).out = s.out
      ∧ (s.closeWindows).pending = s.pending := by
  unfold State.closeWindows; split <;> simp
@[simp] theorem closeWindows_cfg : (s.closeWindows).cfg = s.cfg := (closeWindows_kept s).1
@[simp] theorem closeWindows_stc : (s.closeWindows).stc = s.stc := (closeWindows_kept s).2.1
@[simp] theorem closeWindows_loader : (s.closeWindows).loader = s.loader := (closeWindows_kept s).2.2.1
@[simp] theorem closeWindows_lp : (s.closeWindows).lp = s.lp := (closeWindows_kept s).2.2.2.1
@[simp] theorem closeWindows_stx : (s.closeWindows).stx = s.stx := (closeWindows_kept s).2.2.2.2.1
@[simp] theorem closeWindows_pt : (s.closeWindows).pt = s.pt := (closeWindows_kept s).2.2.2.2.2.1
@[simp] theorem closeWindows_pe : (s.closeWindows).pe = s.pe := (closeWindows_kept s).2.2.2.2.2.2.1
@[simp] theorem closeWindows_du : (s.closeWindows).du = s.du := (closeWindows_kept s).2.2.2.2.2.2.2.1
@[simp] theorem closeWindows_te : (s.closeWindows).te = s.te := (closeWindows_kept s).2.2.2.2.2.2.2.2.1
@[simp] theorem closeWindows_sc : (s.closeWindows).sc = s.sc := (closeWindows_kept s).2.2.2.2.2.2.2.2.2.1
@[simp] theorem closeWindows_inp : (s.closeWindows).inp = s.inp := (closeWindows_kept s).2.2.2.2.2.2.2.2.2.2.1
@[simp] theorem closeWindows_out : (s.closeWindows).out = s.out := (closeWindows_kept s).2.2.2.2.2.2.2.2.2.2.2.1
@[simp] theorem closeWindows_pending : (s.closeWindows).pending = s.pending := (closeWindows_kept s).2.2.2.2.2.2.2.2.2.2.2.2
end closeWindows

section temperatureStage
variable (s : State)
theorem temperatureStage_kept :
    (s.temperatureStage).cfg = s.cfg ∧ (s.temperatureStage).stc = s.stc ∧ (s.temperatureStage).loader = s.loader ∧ (s.temperatureStage).lp = s.lp
      ∧ (s.temperatureStage).stx = s.stx ∧ (s.temperatureStage).pt = s.pt ∧ (s.temperatureStage).pe = s.pe ∧ (s.temperatureStage).du = s.du
      ∧ (s.temperatureStage).te = s.te ∧ (s.temperatureStage).am = s.am ∧ (s.temperatureStage).inp = s.inp ∧ (s.temperatureStage).out = s.out
      ∧ (s.temperatureStage).pending = s.pending := by
  unfold State.temperatureStage; split <;> simp
@[simp] theorem temperatureStage_cfg : (s.temperatureStage).cfg = s.cfg := (temperatureStage_kept s).1
@[simp] theorem temperatureStage_stc : (s.temperatureStage).stc = s.stc := (temperatureStage_kept s).2.1
@[simp] theorem temperatureStage_loader : (s.temperatureStage).loader = s.loader := (temperatureStage_kept s).2.2.1
@[simp] theorem temperatureStage_lp : (s.temperatureStage).lp = s.lp := (temperatureStage_kept s).2.2.2.1
@[simp] theorem temperatureStage_stx : (s.temperatureStage).stx = s.stx := (temperatureStage_kept s).2.2.2.2.1
@[simp] theorem temperatureStage_pt : (s.temperatureStage).pt = s.pt := (temperatureStage_kept s).2.2.2.2.2.1
@[simp] theorem temperatureStage_pe : (s.temperatureStage).pe = s.pe := (temperatureStage_kept s).2.2.2.2.2.2.1
@[simp] theorem temperatureStage_du : (s.temperatureStage).du = s.du := (temperatureStage_kept s).2.2.2.2.2.2.2.1
@[simp] theorem temperatureStage_te : (s.temperatureStage).te = s.te := (temperatureStage_kept s).2.2.2.2.2.2.2.2.1
@[simp] theorem temperatureStage_am : (s.temperatureStage).am = s.am := (temperatureStage_kept s).2.2.2.2.2.2.2.2.2.1
@[simp] theorem temperatureStage_inp : (s.temperatureStage).inp = s.inp := (temperatureStage_kept s).2.2.2.2.2.2.2.2.2.2.1
@[simp] theorem temperatureStage_out : (s.temperatureStage).out = s.out := (temperatureStage_kept s).2.2.2.2.2.2.2.2.2.2.2.1
@[simp] theorem temperatureStage_pending : (s.temperatureStage).pending = s.pending := (temperatureStage_kept s).2.2.2.2.2.2.2.2.2.2.2.2
end temperatureStage

section degrade
variable (s : State) (cause : DegradedCause)
theorem degrade_kept :
    (s.degrade cause).cfg = s.cfg ∧ (s.degrade cause).stc = s.stc ∧ (s.degrade cause).loader = s.loader ∧ (s.degrade cause).pt = s.pt
      ∧ (s.degrade cause).pe = s.pe ∧ (s.degrade cause).du = s.du ∧ (s.degrade cause).cu = s.cu ∧ (s.degrade cause).te = s.te
      ∧ (s.degrade cause).am = s.am ∧ (s.degrade cause).inp = s.inp ∧ (s.degrade cause).out = s.out ∧ (s.degrade cause).pending = s.pending := by
  simp [State.degrade]
@[simp] theorem degrade_cfg : (s.degrade cause).cfg = s.cfg := (degrade_kept s cause).1
@[simp] theorem degrade_stc : (s.degrade cause).stc = s.stc := (degrade_kept s cause).2.1
@[simp] theorem degrade_loader : (s.degrade cause).loader = s.loader := (degrade_kept s cause).2.2.1
@[simp] theorem degrade_pt : (s.degrade cause).pt = s.pt := (degrade_kept s cause).2.2.2.1
@[simp] theorem degrade_pe : (s.degrade cause).pe = s.pe := (degrade_kept s cause).2.2.2.2.1
@[simp] theorem degrade_du : (s.degrade cause).du = s.du := (degrade_kept s cause).2.2.2.2.2.1
@[simp] theorem degrade_cu : (s.degrade cause).cu = s.cu := (degrade_kept s cause).2.2.2.2.2.2.1
@[simp] theorem degrade_te : (s.degrade cause).te = s.te := (degrade_kept s cause).2.2.2.2.2.2.2.1
@[simp] theorem degrade_am : (s.degrade cause).am = s.am := (degrade_kept s cause).2.2.2.2.2.2.2.2.1
@[simp] theorem degrade_inp : (s.degrade cause).inp = s.inp := (degrade_kept s cause).2.2.2.2.2.2.2.2.2.1
@[simp] theorem degrade_out : (s.degrade cause).out = s.out := (degrade_kept s cause).2.2.2.2.2.2.2.2.2.2.1
@[simp] theorem degrade_pending : (s.degrade cause).pending = s.pending := (degrade_kept s cause).2.2.2.2.2.2.2.2.2.2.2
end degrade

section feedbackStage
variable (s : State)
theorem feedbackStage_kept :
    (s.feedbackStage).cfg = s.cfg ∧ (s.feedbackStage).stc = s.stc ∧ (s.feedbackStage).loader = s.loader ∧ (s.feedbackStage).pt = s.pt
      ∧ (s.feedbackStage).pe = s.pe ∧ (s.feedbackStage).du = s.du ∧ (s.feedbackStage).cu = s.cu ∧ (s.feedbackStage).te = s.te
      ∧ (s.feedbackStage).am = s.am ∧ (s.feedbackStage).inp = s.inp ∧ (s.feedbackStage).out = s.out ∧ (s.feedbackStage).pending = s.pending := by
  unfold State.feedbackStage; split <;> simp
@[simp] theorem feedbackStage_cfg : (s.feedbackStage).cfg = s.cfg := (feedbackStage_kept s).1
@[simp] theorem feedbackStage_stc : (s.feedbackStage).stc = s.stc := (feedbackStage_kept s).2.1
@[simp] theorem feedbackStage_loader : (s.feedbackStage).loader = s.loader := (feedbackStage_kept s).2.2.1
@[simp] theorem feedbackStage_pt : (s.feedbackStage).pt = s.pt := (feedbackStage_kept s).2.2.2.1
@[simp] theorem feedbackStage_pe : (s.feedbackStage).pe = s.pe := (feedbackStage_kept s).2.2.2.2.1
@[simp] theorem feedbackStage_du : (s.feedbackStage).du = s.du := (feedbackStage_kept s).2.2.2.2.2.1
@[simp] theorem feedbackStage_cu : (s.feedbackStage).cu = s.cu := (feedbackStage_kept s).2.2.2.2.2.2.1
@[simp] theorem feedbackStage_te : (s.feedbackStage).te = s.te := (feedbackStage_kept s).2.2.2.2.2.2.2.1
@[simp] theorem feedbackStage_am : (s.feedbackStage).am = s.am := (feedbackStage_kept s).2.2.2.2.2.2.2.2.1
@[simp] theorem feedbackStage_inp : (s.feedbackStage).inp = s.inp := (feedbackStage_kept s).2.2.2.2.2.2.2.2.2.1
@[simp] theorem feedbackStage_out : (s.feedbackStage).out = s.out := (feedbackStage_kept s).2.2.2.2.2.2.2.2.2.2.1
@[simp] theorem feedbackStage_pending : (s.feedbackStage).pending = s.pending := (feedbackStage_kept s).2.2.2.2.2.2.2.2.2.2.2
end feedbackStage

section takeStage
variable (s : State)
theorem takeStage_kept :
    (s.takeStage).cfg = s.cfg ∧ (s.takeStage).stc = s.stc ∧ (s.takeStage).loader = s.loader ∧ (s.takeStage).lp = s.lp
      ∧ (s.takeStage).stx = s.stx ∧ (s.takeStage).pt = s.pt ∧ (s.takeStage).pe = s.pe ∧ (s.takeStage).du = s.du
      ∧ (s.takeStage).cu = s.cu ∧ (s.takeStage).te = s.te ∧ (s.takeStage).am = s.am ∧ (s.takeStage).inp = s.inp
      ∧ (s.takeStage).out = s.out ∧ (s.takeStage).pending = s.pending := by
  simp [State.takeStage]
@[simp] theorem takeStage_cfg : (s.takeStage).cfg = s.cfg := (takeStage_kept s).1
@[simp] theorem takeStage_stc : (s.takeStage).stc = s.stc := (takeStage_kept s).2.1
@[simp] theorem takeStage_loader : (s.takeStage).loader = s.loader := (takeStage_kept s).2.2.1
@[simp] theorem takeStage_lp : (s.takeStage).lp = s.lp := (takeStage_kept s).2.2.2.1
@[simp] theorem takeStage_stx : (s.takeStage).stx = s.stx := (takeStage_kept s).2.2.2.2.1
@[simp] theorem takeStage_pt : (s.takeStage).pt = s.pt := (takeStage_kept s).2.2.2.2.2.1
@[simp] theorem takeStage_pe : (s.takeStage).pe = s.pe := (takeStage_kept s).2.2.2.2.2.2.1
@[simp] theorem takeStage_du : (s.takeStage).du = s.du := (takeStage_kept s).2.2.2.2.2.2.2.1
@[simp] theorem takeStage_cu : (s.takeStage).cu = s.cu := (takeStage_kept s).2.2.2.2.2.2.2.2.1
@[simp] theorem takeStage_te : (s.takeStage).te = s.te := (takeStage_kept s).2.2.2.2.2.2.2.2.2.1
@[simp] theorem takeStage_am : (s.takeStage).am = s.am := (takeStage_kept s).2.2.2.2.2.2.2.2.2.2.1
@[simp] theorem takeStage_inp : (s.takeStage).inp = s.inp := (takeStage_kept s).2.2.2.2.2.2.2.2.2.2.2.1
@[simp] theorem takeStage_out : (s.takeStage).out = s.out := (takeStage_kept s).2.2.2.2.2.2.2.2.2.2.2.2.1
@[simp] theorem takeStage_pending : (s.takeStage).pending = s.pending := (takeStage_kept s).2.2.2.2.2.2.2.2.2.2.2.2.2
end takeStage

section supervisionStage
variable (s : State)
theorem supervisionStage_kept :
    (s.supervisionStage).cfg = s.cfg ∧ (s.supervisionStage).stc = s.stc ∧ (s.supervisionStage).loader = s.loader ∧ (s.supervisionStage).pt = s.pt
      ∧ (s.supervisionStage).pe = s.pe ∧ (s.supervisionStage).du = s.du ∧ (s.supervisionStage).te = s.te ∧ (s.supervisionStage).am = s.am
      ∧ (s.supervisionStage).inp = s.inp ∧ (s.supervisionStage).out = s.out ∧ (s.supervisionStage).pending = s.pending := by
  unfold State.supervisionStage; split <;> (try simp only []) <;> (try split) <;> simp
@[simp] theorem supervisionStage_cfg : (s.supervisionStage).cfg = s.cfg := (supervisionStage_kept s).1
@[simp] theorem supervisionStage_stc : (s.supervisionStage).stc = s.stc := (supervisionStage_kept s).2.1
@[simp] theorem supervisionStage_loader : (s.supervisionStage).loader = s.loader := (supervisionStage_kept s).2.2.1
@[simp] theorem supervisionStage_pt : (s.supervisionStage).pt = s.pt := (supervisionStage_kept s).2.2.2.1
@[simp] theorem supervisionStage_pe : (s.supervisionStage).pe = s.pe := (supervisionStage_kept s).2.2.2.2.1
@[simp] theorem supervisionStage_du : (s.supervisionStage).du = s.du := (supervisionStage_kept s).2.2.2.2.2.1
@[simp] theorem supervisionStage_te : (s.supervisionStage).te = s.te := (supervisionStage_kept s).2.2.2.2.2.2.1
@[simp] theorem supervisionStage_am : (s.supervisionStage).am = s.am := (supervisionStage_kept s).2.2.2.2.2.2.2.1
@[simp] theorem supervisionStage_inp : (s.supervisionStage).inp = s.inp := (supervisionStage_kept s).2.2.2.2.2.2.2.2.1
@[simp] theorem supervisionStage_out : (s.supervisionStage).out = s.out := (supervisionStage_kept s).2.2.2.2.2.2.2.2.2.1
@[simp] theorem supervisionStage_pending : (s.supervisionStage).pending = s.pending := (supervisionStage_kept s).2.2.2.2.2.2.2.2.2.2
end supervisionStage

section commandStage
variable (s : State)
theorem commandStage_kept :
    (s.commandStage).cfg = s.cfg ∧ (s.commandStage).stc = s.stc ∧ (s.commandStage).loader = s.loader ∧ (s.commandStage).lp = s.lp
      ∧ (s.commandStage).stx = s.stx ∧ (s.commandStage).pt = s.pt ∧ (s.commandStage).pe = s.pe ∧ (s.commandStage).du = s.du
      ∧ (s.commandStage).cu = s.cu ∧ (s.commandStage).te = s.te ∧ (s.commandStage).am = s.am ∧ (s.commandStage).inp = s.inp
      ∧ (s.commandStage).out = s.out ∧ (s.commandStage).pending = s.pending := by
  simp [State.commandStage]
@[simp] theorem commandStage_cfg : (s.commandStage).cfg = s.cfg := (commandStage_kept s).1
@[simp] theorem commandStage_stc : (s.commandStage).stc = s.stc := (commandStage_kept s).2.1
@[simp] theorem commandStage_loader : (s.commandStage).loader = s.loader := (commandStage_kept s).2.2.1
@[simp] theorem commandStage_lp : (s.commandStage).lp = s.lp := (commandStage_kept s).2.2.2.1
@[simp] theorem commandStage_stx : (s.commandStage).stx = s.stx := (commandStage_kept s).2.2.2.2.1
@[simp] theorem commandStage_pt : (s.commandStage).pt = s.pt := (commandStage_kept s).2.2.2.2.2.1
@[simp] theorem commandStage_pe : (s.commandStage).pe = s.pe := (commandStage_kept s).2.2.2.2.2.2.1
@[simp] theorem commandStage_du : (s.commandStage).du = s.du := (commandStage_kept s).2.2.2.2.2.2.2.1
@[simp] theorem commandStage_cu : (s.commandStage).cu = s.cu := (commandStage_kept s).2.2.2.2.2.2.2.2.1
@[simp] theorem commandStage_te : (s.commandStage).te = s.te := (commandStage_kept s).2.2.2.2.2.2.2.2.2.1
@[simp] theorem commandStage_am : (s.commandStage).am = s.am := (commandStage_kept s).2.2.2.2.2.2.2.2.2.2.1
@[simp] theorem commandStage_inp : (s.commandStage).inp = s.inp := (commandStage_kept s).2.2.2.2.2.2.2.2.2.2.2.1
@[simp] theorem commandStage_out : (s.commandStage).out = s.out := (commandStage_kept s).2.2.2.2.2.2.2.2.2.2.2.2.1
@[simp] theorem commandStage_pending : (s.commandStage).pending = s.pending := (commandStage_kept s).2.2.2.2.2.2.2.2.2.2.2.2.2
end commandStage

section sinkStages
variable (s : State)
theorem sinkStages_kept :
    (s.sinkStages).cfg = s.cfg ∧ (s.sinkStages).stc = s.stc ∧ (s.sinkStages).loader = s.loader ∧ (s.sinkStages).pt = s.pt
      ∧ (s.sinkStages).pe = s.pe ∧ (s.sinkStages).du = s.du ∧ (s.sinkStages).te = s.te ∧ (s.sinkStages).inp = s.inp
      ∧ (s.sinkStages).out = s.out ∧ (s.sinkStages).pending = s.pending := by
  simp [State.sinkStages]
@[simp] theorem sinkStages_cfg : (s.sinkStages).cfg = s.cfg := (sinkStages_kept s).1
@[simp] theorem sinkStages_stc : (s.sinkStages).stc = s.stc := (sinkStages_kept s).2.1
@[simp] theorem sinkStages_loader : (s.sinkStages).loader = s.loader := (sinkStages_kept s).2.2.1
@[simp] theorem sinkStages_pt : (s.sinkStages).pt = s.pt := (sinkStages_kept s).2.2.2.1
@[simp] theorem sinkStages_pe : (s.sinkStages).pe = s.pe := (sinkStages_kept s).2.2.2.2.1
@[simp] theorem sinkStages_du : (s.sinkStages).du = s.du := (sinkStages_kept s).2.2.2.2.2.1
@[simp] theorem sinkStages_te : (s.sinkStages).te = s.te := (sinkStages_kept s).2.2.2.2.2.2.1
@[simp] theorem sinkStages_inp : (s.sinkStages).inp = s.inp := (sinkStages_kept s).2.2.2.2.2.2.2.1
@[simp] theorem sinkStages_out : (s.sinkStages).out = s.out := (sinkStages_kept s).2.2.2.2.2.2.2.2.1
@[simp] theorem sinkStages_pending : (s.sinkStages).pending = s.pending := (sinkStages_kept s).2.2.2.2.2.2.2.2.2
end sinkStages

section heatAndCool
variable (s : State)
theorem heatAndCool_kept :
    (s.heatAndCool).cfg = s.cfg ∧ (s.heatAndCool).stc = s.stc ∧ (s.heatAndCool).loader = s.loader ∧ (s.heatAndCool).lp = s.lp
      ∧ (s.heatAndCool).stx = s.stx ∧ (s.heatAndCool).pt = s.pt ∧ (s.heatAndCool).pe = s.pe ∧ (s.heatAndCool).du = s.du
      ∧ (s.heatAndCool).am = s.am ∧ (s.heatAndCool).sc = s.sc ∧ (s.heatAndCool).inp = s.inp ∧ (s.heatAndCool).out = s.out
      ∧ (s.heatAndCool).pending = s.pending := by
  simp [State.heatAndCool]
@[simp] theorem heatAndCool_cfg : (s.heatAndCool).cfg = s.cfg := (heatAndCool_kept s).1
@[simp] theorem heatAndCool_stc : (s.heatAndCool).stc = s.stc := (heatAndCool_kept s).2.1
@[simp] theorem heatAndCool_loader : (s.heatAndCool).loader = s.loader := (heatAndCool_kept s).2.2.1
@[simp] theorem heatAndCool_lp : (s.heatAndCool).lp = s.lp := (heatAndCool_kept s).2.2.2.1
@[simp] theorem heatAndCool_stx : (s.heatAndCool).stx = s.stx := (heatAndCool_kept s).2.2.2.2.1
@[simp] theorem heatAndCool_pt : (s.heatAndCool).pt = s.pt := (heatAndCool_kept s).2.2.2.2.2.1
@[simp] theorem heatAndCool_pe : (s.heatAndCool).pe = s.pe := (heatAndCool_kept s).2.2.2.2.2.2.1
@[simp] theorem heatAndCool_du : (s.heatAndCool).du = s.du := (heatAndCool_kept s).2.2.2.2.2.2.2.1
@[simp] theorem heatAndCool_am : (s.heatAndCool).am = s.am := (heatAndCool_kept s).2.2.2.2.2.2.2.2.1
@[simp] theorem heatAndCool_sc : (s.heatAndCool).sc = s.sc := (heatAndCool_kept s).2.2.2.2.2.2.2.2.2.1
@[simp] theorem heatAndCool_inp : (s.heatAndCool).inp = s.inp := (heatAndCool_kept s).2.2.2.2.2.2.2.2.2.2.1
@[simp] theorem heatAndCool_out : (s.heatAndCool).out = s.out := (heatAndCool_kept s).2.2.2.2.2.2.2.2.2.2.2.1
@[simp] theorem heatAndCool_pending : (s.heatAndCool).pending = s.pending := (heatAndCool_kept s).2.2.2.2.2.2.2.2.2.2.2.2
end heatAndCool

section enterSlot
variable (s : State) (cls : SlotClass) (stmt : Statement)
theorem enterSlot_kept :
    (s.enterSlot cls stmt).cfg = s.cfg ∧ (s.enterSlot cls stmt).stc = s.stc ∧ (s.enterSlot cls stmt).loader = s.loader ∧ (s.enterSlot cls stmt).pt = s.pt
      ∧ (s.enterSlot cls stmt).pe = s.pe ∧ (s.enterSlot cls stmt).du = s.du ∧ (s.enterSlot cls stmt).cu = s.cu ∧ (s.enterSlot cls stmt).te = s.te
      ∧ (s.enterSlot cls stmt).am = s.am ∧ (s.enterSlot cls stmt).sc = s.sc ∧ (s.enterSlot cls stmt).inp = s.inp ∧ (s.enterSlot cls stmt).out = s.out
      ∧ (s.enterSlot cls stmt).pending = s.pending := by
  simp [State.enterSlot]
@[simp] theorem enterSlot_cfg : (s.enterSlot cls stmt).cfg = s.cfg := (enterSlot_kept s cls stmt).1
@[simp] theorem enterSlot_stc : (s.enterSlot cls stmt).stc = s.stc := (enterSlot_kept s cls stmt).2.1
@[simp] theorem enterSlot_loader : (s.enterSlot cls stmt).loader = s.loader := (enterSlot_kept s cls stmt).2.2.1
@[simp] theorem enterSlot_pt : (s.enterSlot cls stmt).pt = s.pt := (enterSlot_kept s cls stmt).2.2.2.1
@[simp] theorem enterSlot_pe : (s.enterSlot cls stmt).pe = s.pe := (enterSlot_kept s cls stmt).2.2.2.2.1
@[simp] theorem enterSlot_du : (s.enterSlot cls stmt).du = s.du := (enterSlot_kept s cls stmt).2.2.2.2.2.1
@[simp] theorem enterSlot_cu : (s.enterSlot cls stmt).cu = s.cu := (enterSlot_kept s cls stmt).2.2.2.2.2.2.1
@[simp] theorem enterSlot_te : (s.enterSlot cls stmt).te = s.te := (enterSlot_kept s cls stmt).2.2.2.2.2.2.2.1
@[simp] theorem enterSlot_am : (s.enterSlot cls stmt).am = s.am := (enterSlot_kept s cls stmt).2.2.2.2.2.2.2.2.1
@[simp] theorem enterSlot_sc : (s.enterSlot cls stmt).sc = s.sc := (enterSlot_kept s cls stmt).2.2.2.2.2.2.2.2.2.1
@[simp] theorem enterSlot_inp : (s.enterSlot cls stmt).inp = s.inp := (enterSlot_kept s cls stmt).2.2.2.2.2.2.2.2.2.2.1
@[simp] theorem enterSlot_out : (s.enterSlot cls stmt).out = s.out := (enterSlot_kept s cls stmt).2.2.2.2.2.2.2.2.2.2.2.1
@[simp] theorem enterSlot_pending : (s.enterSlot cls stmt).pending = s.pending := (enterSlot_kept s cls stmt).2.2.2.2.2.2.2.2.2.2.2.2
end enterSlot

section startFrame
variable (s : State) (cls : SlotClass) (h : Held)
theorem startFrame_kept :
    (s.startFrame cls h).cfg = s.cfg ∧ (s.startFrame cls h).stc = s.stc ∧ (s.startFrame cls h).loader = s.loader ∧ (s.startFrame cls h).pt = s.pt
      ∧ (s.startFrame cls h).pe = s.pe ∧ (s.startFrame cls h).du = s.du ∧ (s.startFrame cls h).cu = s.cu ∧ (s.startFrame cls h).te = s.te
      ∧ (s.startFrame cls h).am = s.am ∧ (s.startFrame cls h).sc = s.sc ∧ (s.startFrame cls h).inp = s.inp ∧ (s.startFrame cls h).out = s.out
      ∧ (s.startFrame cls h).pending = s.pending := by
  simp [State.startFrame]
@[simp] theorem startFrame_cfg : (s.startFrame cls h).cfg = s.cfg := (startFrame_kept s cls h).1
@[simp] theorem startFrame_stc : (s.startFrame cls h).stc = s.stc := (startFrame_kept s cls h).2.1
@[simp] theorem startFrame_loader : (s.startFrame cls h).loader = s.loader := (startFrame_kept s cls h).2.2.1
@[simp] theorem startFrame_pt : (s.startFrame cls h).pt = s.pt := (startFrame_kept s cls h).2.2.2.1
@[simp] theorem startFrame_pe : (s.startFrame cls h).pe = s.pe := (startFrame_kept s cls h).2.2.2.2.1
@[simp] theorem startFrame_du : (s.startFrame cls h).du = s.du := (startFrame_kept s cls h).2.2.2.2.2.1
@[simp] theorem startFrame_cu : (s.startFrame cls h).cu = s.cu := (startFrame_kept s cls h).2.2.2.2.2.2.1
@[simp] theorem startFrame_te : (s.startFrame cls h).te = s.te := (startFrame_kept s cls h).2.2.2.2.2.2.2.1
@[simp] theorem startFrame_am : (s.startFrame cls h).am = s.am := (startFrame_kept s cls h).2.2.2.2.2.2.2.2.1
@[simp] theorem startFrame_sc : (s.startFrame cls h).sc = s.sc := (startFrame_kept s cls h).2.2.2.2.2.2.2.2.2.1
@[simp] theorem startFrame_inp : (s.startFrame cls h).inp = s.inp := (startFrame_kept s cls h).2.2.2.2.2.2.2.2.2.2.1
@[simp] theorem startFrame_out : (s.startFrame cls h).out = s.out := (startFrame_kept s cls h).2.2.2.2.2.2.2.2.2.2.2.1
@[simp] theorem startFrame_pending : (s.startFrame cls h).pending = s.pending := (startFrame_kept s cls h).2.2.2.2.2.2.2.2.2.2.2.2
end startFrame

section tryStart
variable (s : State) (elapsed : Nat)
theorem tryStart_kept :
    (s.tryStart elapsed).cfg = s.cfg ∧ (s.tryStart elapsed).stc = s.stc ∧ (s.tryStart elapsed).loader = s.loader ∧ (s.tryStart elapsed).pt = s.pt
      ∧ (s.tryStart elapsed).pe = s.pe ∧ (s.tryStart elapsed).du = s.du ∧ (s.tryStart elapsed).cu = s.cu ∧ (s.tryStart elapsed).te = s.te
      ∧ (s.tryStart elapsed).am = s.am ∧ (s.tryStart elapsed).sc = s.sc ∧ (s.tryStart elapsed).inp = s.inp ∧ (s.tryStart elapsed).out = s.out
      ∧ (s.tryStart elapsed).pending = s.pending := by
  unfold State.tryStart; split <;> (try split) <;> simp
@[simp] theorem tryStart_cfg : (s.tryStart elapsed).cfg = s.cfg := (tryStart_kept s elapsed).1
@[simp] theorem tryStart_stc : (s.tryStart elapsed).stc = s.stc := (tryStart_kept s elapsed).2.1
@[simp] theorem tryStart_loader : (s.tryStart elapsed).loader = s.loader := (tryStart_kept s elapsed).2.2.1
@[simp] theorem tryStart_pt : (s.tryStart elapsed).pt = s.pt := (tryStart_kept s elapsed).2.2.2.1
@[simp] theorem tryStart_pe : (s.tryStart elapsed).pe = s.pe := (tryStart_kept s elapsed).2.2.2.2.1
@[simp] theorem tryStart_du : (s.tryStart elapsed).du = s.du := (tryStart_kept s elapsed).2.2.2.2.2.1
@[simp] theorem tryStart_cu : (s.tryStart elapsed).cu = s.cu := (tryStart_kept s elapsed).2.2.2.2.2.2.1
@[simp] theorem tryStart_te : (s.tryStart elapsed).te = s.te := (tryStart_kept s elapsed).2.2.2.2.2.2.2.1
@[simp] theorem tryStart_am : (s.tryStart elapsed).am = s.am := (tryStart_kept s elapsed).2.2.2.2.2.2.2.2.1
@[simp] theorem tryStart_sc : (s.tryStart elapsed).sc = s.sc := (tryStart_kept s elapsed).2.2.2.2.2.2.2.2.2.1
@[simp] theorem tryStart_inp : (s.tryStart elapsed).inp = s.inp := (tryStart_kept s elapsed).2.2.2.2.2.2.2.2.2.2.1
@[simp] theorem tryStart_out : (s.tryStart elapsed).out = s.out := (tryStart_kept s elapsed).2.2.2.2.2.2.2.2.2.2.2.1
@[simp] theorem tryStart_pending : (s.tryStart elapsed).pending = s.pending := (tryStart_kept s elapsed).2.2.2.2.2.2.2.2.2.2.2.2
end tryStart

section leaveReported
variable (s : State) (gone : Bool)
theorem leaveReported_kept :
    (s.leaveReported gone).cfg = s.cfg ∧ (s.leaveReported gone).loader = s.loader ∧ (s.leaveReported gone).inp = s.inp ∧ (s.leaveReported gone).out = s.out
      ∧ (s.leaveReported gone).pending = s.pending := by
  unfold State.leaveReported; split <;> simp
@[simp] theorem leaveReported_cfg : (s.leaveReported gone).cfg = s.cfg := (leaveReported_kept s gone).1
@[simp] theorem leaveReported_loader : (s.leaveReported gone).loader = s.loader := (leaveReported_kept s gone).2.1
@[simp] theorem leaveReported_inp : (s.leaveReported gone).inp = s.inp := (leaveReported_kept s gone).2.2.1
@[simp] theorem leaveReported_out : (s.leaveReported gone).out = s.out := (leaveReported_kept s gone).2.2.2.1
@[simp] theorem leaveReported_pending : (s.leaveReported gone).pending = s.pending := (leaveReported_kept s gone).2.2.2.2
end leaveReported

section attemptFailed
variable (s : State) (cls : SlotClass)
theorem attemptFailed_kept :
    (s.attemptFailed cls).cfg = s.cfg ∧ (s.attemptFailed cls).loader = s.loader ∧ (s.attemptFailed cls).inp = s.inp ∧ (s.attemptFailed cls).out = s.out
      ∧ (s.attemptFailed cls).pending = s.pending := by
  unfold State.attemptFailed; split <;> (try simp only []) <;> (try split) <;> simp
@[simp] theorem attemptFailed_cfg : (s.attemptFailed cls).cfg = s.cfg := (attemptFailed_kept s cls).1
@[simp] theorem attemptFailed_loader : (s.attemptFailed cls).loader = s.loader := (attemptFailed_kept s cls).2.1
@[simp] theorem attemptFailed_inp : (s.attemptFailed cls).inp = s.inp := (attemptFailed_kept s cls).2.2.1
@[simp] theorem attemptFailed_out : (s.attemptFailed cls).out = s.out := (attemptFailed_kept s cls).2.2.2.1
@[simp] theorem attemptFailed_pending : (s.attemptFailed cls).pending = s.pending := (attemptFailed_kept s cls).2.2.2.2
end attemptFailed

section frameCompleted
variable (s : State) (cls : SlotClass)
theorem frameCompleted_kept :
    (s.frameCompleted cls).cfg = s.cfg ∧ (s.frameCompleted cls).loader = s.loader ∧ (s.frameCompleted cls).inp = s.inp ∧ (s.frameCompleted cls).out = s.out
      ∧ (s.frameCompleted cls).pending = s.pending := by
  unfold State.frameCompleted; split <;> simp
@[simp] theorem frameCompleted_cfg : (s.frameCompleted cls).cfg = s.cfg := (frameCompleted_kept s cls).1
@[simp] theorem frameCompleted_loader : (s.frameCompleted cls).loader = s.loader := (frameCompleted_kept s cls).2.1
@[simp] theorem frameCompleted_inp : (s.frameCompleted cls).inp = s.inp := (frameCompleted_kept s cls).2.2.1
@[simp] theorem frameCompleted_out : (s.frameCompleted cls).out = s.out := (frameCompleted_kept s cls).2.2.2.1
@[simp] theorem frameCompleted_pending : (s.frameCompleted cls).pending = s.pending := (frameCompleted_kept s cls).2.2.2.2
end frameCompleted

section readBack
variable (s : State) (f : TxFrame) (read : Option Character)
theorem readBack_kept :
    (s.readBack f read).cfg = s.cfg ∧ (s.readBack f read).loader = s.loader ∧ (s.readBack f read).inp = s.inp ∧ (s.readBack f read).out = s.out
      ∧ (s.readBack f read).pending = s.pending := by
  unfold State.readBack; split <;> (try split) <;> simp
@[simp] theorem readBack_cfg : (s.readBack f read).cfg = s.cfg := (readBack_kept s f read).1
@[simp] theorem readBack_loader : (s.readBack f read).loader = s.loader := (readBack_kept s f read).2.1
@[simp] theorem readBack_inp : (s.readBack f read).inp = s.inp := (readBack_kept s f read).2.2.1
@[simp] theorem readBack_out : (s.readBack f read).out = s.out := (readBack_kept s f read).2.2.2.1
@[simp] theorem readBack_pending : (s.readBack f read).pending = s.pending := (readBack_kept s f read).2.2.2.2
end readBack

section setRx
variable (s : State) (rx : Receiver)
theorem setRx_kept :
    (s.setRx rx).cfg = s.cfg ∧ (s.setRx rx).stc = s.stc ∧ (s.setRx rx).loader = s.loader ∧ (s.setRx rx).stx = s.stx
      ∧ (s.setRx rx).pt = s.pt ∧ (s.setRx rx).pe = s.pe ∧ (s.setRx rx).du = s.du ∧ (s.setRx rx).cu = s.cu
      ∧ (s.setRx rx).te = s.te ∧ (s.setRx rx).am = s.am ∧ (s.setRx rx).sc = s.sc ∧ (s.setRx rx).inp = s.inp
      ∧ (s.setRx rx).out = s.out ∧ (s.setRx rx).pending = s.pending := by
  simp [State.setRx]
@[simp] theorem setRx_cfg : (s.setRx rx).cfg = s.cfg := (setRx_kept s rx).1
@[simp] theorem setRx_stc : (s.setRx rx).stc = s.stc := (setRx_kept s rx).2.1
@[simp] theorem setRx_loader : (s.setRx rx).loader = s.loader := (setRx_kept s rx).2.2.1
@[simp] theorem setRx_stx : (s.setRx rx).stx = s.stx := (setRx_kept s rx).2.2.2.1
@[simp] theorem setRx_pt : (s.setRx rx).pt = s.pt := (setRx_kept s rx).2.2.2.2.1
@[simp] theorem setRx_pe : (s.setRx rx).pe = s.pe := (setRx_kept s rx).2.2.2.2.2.1
@[simp] theorem setRx_du : (s.setRx rx).du = s.du := (setRx_kept s rx).2.2.2.2.2.2.1
@[simp] theorem setRx_cu : (s.setRx rx).cu = s.cu := (setRx_kept s rx).2.2.2.2.2.2.2.1
@[simp] theorem setRx_te : (s.setRx rx).te = s.te := (setRx_kept s rx).2.2.2.2.2.2.2.2.1
@[simp] theorem setRx_am : (s.setRx rx).am = s.am := (setRx_kept s rx).2.2.2.2.2.2.2.2.2.1
@[simp] theorem setRx_sc : (s.setRx rx).sc = s.sc := (setRx_kept s rx).2.2.2.2.2.2.2.2.2.2.1
@[simp] theorem setRx_inp : (s.setRx rx).inp = s.inp := (setRx_kept s rx).2.2.2.2.2.2.2.2.2.2.2.1
@[simp] theorem setRx_out : (s.setRx rx).out = s.out := (setRx_kept s rx).2.2.2.2.2.2.2.2.2.2.2.2.1
@[simp] theorem setRx_pending : (s.setRx rx).pending = s.pending := (setRx_kept s rx).2.2.2.2.2.2.2.2.2.2.2.2.2
end setRx

section receiveError
variable (s : State) (own : Bool)
theorem receiveError_kept :
    (s.receiveError own).cfg = s.cfg ∧ (s.receiveError own).loader = s.loader ∧ (s.receiveError own).pt = s.pt ∧ (s.receiveError own).cu = s.cu
      ∧ (s.receiveError own).te = s.te ∧ (s.receiveError own).am = s.am ∧ (s.receiveError own).inp = s.inp ∧ (s.receiveError own).out = s.out
      ∧ (s.receiveError own).pending = s.pending := by
  unfold State.receiveError; simp only []; split <;> simp
@[simp] theorem receiveError_cfg : (s.receiveError own).cfg = s.cfg := (receiveError_kept s own).1
@[simp] theorem receiveError_loader : (s.receiveError own).loader = s.loader := (receiveError_kept s own).2.1
@[simp] theorem receiveError_pt : (s.receiveError own).pt = s.pt := (receiveError_kept s own).2.2.1
@[simp] theorem receiveError_cu : (s.receiveError own).cu = s.cu := (receiveError_kept s own).2.2.2.1
@[simp] theorem receiveError_te : (s.receiveError own).te = s.te := (receiveError_kept s own).2.2.2.2.1
@[simp] theorem receiveError_am : (s.receiveError own).am = s.am := (receiveError_kept s own).2.2.2.2.2.1
@[simp] theorem receiveError_inp : (s.receiveError own).inp = s.inp := (receiveError_kept s own).2.2.2.2.2.2.1
@[simp] theorem receiveError_out : (s.receiveError own).out = s.out := (receiveError_kept s own).2.2.2.2.2.2.2.1
@[simp] theorem receiveError_pending : (s.receiveError own).pending = s.pending := (receiveError_kept s own).2.2.2.2.2.2.2.2
end receiveError

section headerArrives
variable (s : State) (c : Character) (own : Bool)
theorem headerArrives_kept :
    (s.headerArrives c own).cfg = s.cfg ∧ (s.headerArrives c own).loader = s.loader ∧ (s.headerArrives c own).pt = s.pt ∧ (s.headerArrives c own).cu = s.cu
      ∧ (s.headerArrives c own).te = s.te ∧ (s.headerArrives c own).am = s.am ∧ (s.headerArrives c own).inp = s.inp ∧ (s.headerArrives c own).out = s.out
      ∧ (s.headerArrives c own).pending = s.pending := by
  unfold State.headerArrives; split <;> (try split) <;> simp
@[simp] theorem headerArrives_cfg : (s.headerArrives c own).cfg = s.cfg := (headerArrives_kept s c own).1
@[simp] theorem headerArrives_loader : (s.headerArrives c own).loader = s.loader := (headerArrives_kept s c own).2.1
@[simp] theorem headerArrives_pt : (s.headerArrives c own).pt = s.pt := (headerArrives_kept s c own).2.2.1
@[simp] theorem headerArrives_cu : (s.headerArrives c own).cu = s.cu := (headerArrives_kept s c own).2.2.2.1
@[simp] theorem headerArrives_te : (s.headerArrives c own).te = s.te := (headerArrives_kept s c own).2.2.2.2.1
@[simp] theorem headerArrives_am : (s.headerArrives c own).am = s.am := (headerArrives_kept s c own).2.2.2.2.2.1
@[simp] theorem headerArrives_inp : (s.headerArrives c own).inp = s.inp := (headerArrives_kept s c own).2.2.2.2.2.2.1
@[simp] theorem headerArrives_out : (s.headerArrives c own).out = s.out := (headerArrives_kept s c own).2.2.2.2.2.2.2.1
@[simp] theorem headerArrives_pending : (s.headerArrives c own).pending = s.pending := (headerArrives_kept s c own).2.2.2.2.2.2.2.2
end headerArrives

section warnArrives
variable (s : State) (stmt : Statement)
theorem warnArrives_kept :
    (s.warnArrives stmt).cfg = s.cfg ∧ (s.warnArrives stmt).loader = s.loader ∧ (s.warnArrives stmt).lp = s.lp ∧ (s.warnArrives stmt).stx = s.stx
      ∧ (s.warnArrives stmt).pt = s.pt ∧ (s.warnArrives stmt).pe = s.pe ∧ (s.warnArrives stmt).du = s.du ∧ (s.warnArrives stmt).cu = s.cu
      ∧ (s.warnArrives stmt).te = s.te ∧ (s.warnArrives stmt).am = s.am ∧ (s.warnArrives stmt).sc = s.sc ∧ (s.warnArrives stmt).inp = s.inp
      ∧ (s.warnArrives stmt).out = s.out ∧ (s.warnArrives stmt).pending = s.pending := by
  unfold State.warnArrives; split <;> (try split) <;> simp
@[simp] theorem warnArrives_cfg : (s.warnArrives stmt).cfg = s.cfg := (warnArrives_kept s stmt).1
@[simp] theorem warnArrives_loader : (s.warnArrives stmt).loader = s.loader := (warnArrives_kept s stmt).2.1
@[simp] theorem warnArrives_lp : (s.warnArrives stmt).lp = s.lp := (warnArrives_kept s stmt).2.2.1
@[simp] theorem warnArrives_stx : (s.warnArrives stmt).stx = s.stx := (warnArrives_kept s stmt).2.2.2.1
@[simp] theorem warnArrives_pt : (s.warnArrives stmt).pt = s.pt := (warnArrives_kept s stmt).2.2.2.2.1
@[simp] theorem warnArrives_pe : (s.warnArrives stmt).pe = s.pe := (warnArrives_kept s stmt).2.2.2.2.2.1
@[simp] theorem warnArrives_du : (s.warnArrives stmt).du = s.du := (warnArrives_kept s stmt).2.2.2.2.2.2.1
@[simp] theorem warnArrives_cu : (s.warnArrives stmt).cu = s.cu := (warnArrives_kept s stmt).2.2.2.2.2.2.2.1
@[simp] theorem warnArrives_te : (s.warnArrives stmt).te = s.te := (warnArrives_kept s stmt).2.2.2.2.2.2.2.2.1
@[simp] theorem warnArrives_am : (s.warnArrives stmt).am = s.am := (warnArrives_kept s stmt).2.2.2.2.2.2.2.2.2.1
@[simp] theorem warnArrives_sc : (s.warnArrives stmt).sc = s.sc := (warnArrives_kept s stmt).2.2.2.2.2.2.2.2.2.2.1
@[simp] theorem warnArrives_inp : (s.warnArrives stmt).inp = s.inp := (warnArrives_kept s stmt).2.2.2.2.2.2.2.2.2.2.2.1
@[simp] theorem warnArrives_out : (s.warnArrives stmt).out = s.out := (warnArrives_kept s stmt).2.2.2.2.2.2.2.2.2.2.2.2.1
@[simp] theorem warnArrives_pending : (s.warnArrives stmt).pending = s.pending := (warnArrives_kept s stmt).2.2.2.2.2.2.2.2.2.2.2.2.2
end warnArrives

section handOn
variable (s : State) (bytes : List Byte)
theorem handOn_kept :
    (s.handOn bytes).cfg = s.cfg ∧ (s.handOn bytes).loader = s.loader ∧ (s.handOn bytes).pe = s.pe ∧ (s.handOn bytes).du = s.du
      ∧ (s.handOn bytes).cu = s.cu ∧ (s.handOn bytes).te = s.te ∧ (s.handOn bytes).am = s.am ∧ (s.handOn bytes).sc = s.sc
      ∧ (s.handOn bytes).inp = s.inp ∧ (s.handOn bytes).out = s.out ∧ (s.handOn bytes).pending = s.pending := by
  simp [State.handOn]
@[simp] theorem handOn_cfg : (s.handOn bytes).cfg = s.cfg := (handOn_kept s bytes).1
@[simp] theorem handOn_loader : (s.handOn bytes).loader = s.loader := (handOn_kept s bytes).2.1
@[simp] theorem handOn_pe : (s.handOn bytes).pe = s.pe := (handOn_kept s bytes).2.2.1
@[simp] theorem handOn_du : (s.handOn bytes).du = s.du := (handOn_kept s bytes).2.2.2.1
@[simp] theorem handOn_cu : (s.handOn bytes).cu = s.cu := (handOn_kept s bytes).2.2.2.2.1
@[simp] theorem handOn_te : (s.handOn bytes).te = s.te := (handOn_kept s bytes).2.2.2.2.2.1
@[simp] theorem handOn_am : (s.handOn bytes).am = s.am := (handOn_kept s bytes).2.2.2.2.2.2.1
@[simp] theorem handOn_sc : (s.handOn bytes).sc = s.sc := (handOn_kept s bytes).2.2.2.2.2.2.2.1
@[simp] theorem handOn_inp : (s.handOn bytes).inp = s.inp := (handOn_kept s bytes).2.2.2.2.2.2.2.2.1
@[simp] theorem handOn_out : (s.handOn bytes).out = s.out := (handOn_kept s bytes).2.2.2.2.2.2.2.2.2.1
@[simp] theorem handOn_pending : (s.handOn bytes).pending = s.pending := (handOn_kept s bytes).2.2.2.2.2.2.2.2.2.2
end handOn

section validFrame
variable (s : State) (f : RxFrame) (completed : Bool)
theorem validFrame_kept :
    (s.validFrame f completed).cfg = s.cfg ∧ (s.validFrame f completed).loader = s.loader ∧ (s.validFrame f completed).cu = s.cu ∧ (s.validFrame f completed).te = s.te
      ∧ (s.validFrame f completed).am = s.am ∧ (s.validFrame f completed).inp = s.inp ∧ (s.validFrame f completed).out = s.out ∧ (s.validFrame f completed).pending = s.pending := by
  unfold State.validFrame; split <;> (try split) <;> simp
@[simp] theorem validFrame_cfg : (s.validFrame f completed).cfg = s.cfg := (validFrame_kept s f completed).1
@[simp] theorem validFrame_loader : (s.validFrame f completed).loader = s.loader := (validFrame_kept s f completed).2.1
@[simp] theorem validFrame_cu : (s.validFrame f completed).cu = s.cu := (validFrame_kept s f completed).2.2.1
@[simp] theorem validFrame_te : (s.validFrame f completed).te = s.te := (validFrame_kept s f completed).2.2.2.1
@[simp] theorem validFrame_am : (s.validFrame f completed).am = s.am := (validFrame_kept s f completed).2.2.2.2.1
@[simp] theorem validFrame_inp : (s.validFrame f completed).inp = s.inp := (validFrame_kept s f completed).2.2.2.2.2.1
@[simp] theorem validFrame_out : (s.validFrame f completed).out = s.out := (validFrame_kept s f completed).2.2.2.2.2.2.1
@[simp] theorem validFrame_pending : (s.validFrame f completed).pending = s.pending := (validFrame_kept s f completed).2.2.2.2.2.2.2
end validFrame

section frameComplete
variable (s : State) (f : RxFrame) (own completed : Bool)
theorem frameComplete_kept :
    (s.frameComplete f own completed).cfg = s.cfg ∧ (s.frameComplete f own completed).loader = s.loader ∧ (s.frameComplete f own completed).cu = s.cu ∧ (s.frameComplete f own completed).te = s.te
      ∧ (s.frameComplete f own completed).am = s.am ∧ (s.frameComplete f own completed).inp = s.inp ∧ (s.frameComplete f own completed).out = s.out ∧ (s.frameComplete f own completed).pending = s.pending := by
  unfold State.frameComplete; split <;> simp
@[simp] theorem frameComplete_cfg : (s.frameComplete f own completed).cfg = s.cfg := (frameComplete_kept s f own completed).1
@[simp] theorem frameComplete_loader : (s.frameComplete f own completed).loader = s.loader := (frameComplete_kept s f own completed).2.1
@[simp] theorem frameComplete_cu : (s.frameComplete f own completed).cu = s.cu := (frameComplete_kept s f own completed).2.2.1
@[simp] theorem frameComplete_te : (s.frameComplete f own completed).te = s.te := (frameComplete_kept s f own completed).2.2.2.1
@[simp] theorem frameComplete_am : (s.frameComplete f own completed).am = s.am := (frameComplete_kept s f own completed).2.2.2.2.1
@[simp] theorem frameComplete_inp : (s.frameComplete f own completed).inp = s.inp := (frameComplete_kept s f own completed).2.2.2.2.2.1
@[simp] theorem frameComplete_out : (s.frameComplete f own completed).out = s.out := (frameComplete_kept s f own completed).2.2.2.2.2.2.1
@[simp] theorem frameComplete_pending : (s.frameComplete f own completed).pending = s.pending := (frameComplete_kept s f own completed).2.2.2.2.2.2.2
end frameComplete

section bodyArrives
variable (s : State) (f : RxFrame) (c : Character) (own completed : Bool)
theorem bodyArrives_kept :
    (s.bodyArrives f c own completed).cfg = s.cfg ∧ (s.bodyArrives f c own completed).loader = s.loader ∧ (s.bodyArrives f c own completed).cu = s.cu ∧ (s.bodyArrives f c own completed).te = s.te
      ∧ (s.bodyArrives f c own completed).am = s.am ∧ (s.bodyArrives f c own completed).inp = s.inp ∧ (s.bodyArrives f c own completed).out = s.out ∧ (s.bodyArrives f c own completed).pending = s.pending := by
  unfold State.bodyArrives; split <;> (try simp only []) <;> (try split) <;> simp
@[simp] theorem bodyArrives_cfg : (s.bodyArrives f c own completed).cfg = s.cfg := (bodyArrives_kept s f c own completed).1
@[simp] theorem bodyArrives_loader : (s.bodyArrives f c own completed).loader = s.loader := (bodyArrives_kept s f c own completed).2.1
@[simp] theorem bodyArrives_cu : (s.bodyArrives f c own completed).cu = s.cu := (bodyArrives_kept s f c own completed).2.2.1
@[simp] theorem bodyArrives_te : (s.bodyArrives f c own completed).te = s.te := (bodyArrives_kept s f c own completed).2.2.2.1
@[simp] theorem bodyArrives_am : (s.bodyArrives f c own completed).am = s.am := (bodyArrives_kept s f c own completed).2.2.2.2.1
@[simp] theorem bodyArrives_inp : (s.bodyArrives f c own completed).inp = s.inp := (bodyArrives_kept s f c own completed).2.2.2.2.2.1
@[simp] theorem bodyArrives_out : (s.bodyArrives f c own completed).out = s.out := (bodyArrives_kept s f c own completed).2.2.2.2.2.2.1
@[simp] theorem bodyArrives_pending : (s.bodyArrives f c own completed).pending = s.pending := (bodyArrives_kept s f c own completed).2.2.2.2.2.2.2
end bodyArrives

section characterArrives
variable (s : State) (c : Character) (own completed : Bool)
theorem characterArrives_kept :
    (s.characterArrives c own completed).cfg = s.cfg ∧ (s.characterArrives c own completed).loader = s.loader ∧ (s.characterArrives c own completed).cu = s.cu ∧ (s.characterArrives c own completed).te = s.te
      ∧ (s.characterArrives c own completed).am = s.am ∧ (s.characterArrives c own completed).inp = s.inp ∧ (s.characterArrives c own completed).out = s.out ∧ (s.characterArrives c own completed).pending = s.pending := by
  unfold State.characterArrives; split <;> (try split) <;> simp
@[simp] theorem characterArrives_cfg : (s.characterArrives c own completed).cfg = s.cfg := (characterArrives_kept s c own completed).1
@[simp] theorem characterArrives_loader : (s.characterArrives c own completed).loader = s.loader := (characterArrives_kept s c own completed).2.1
@[simp] theorem characterArrives_cu : (s.characterArrives c own completed).cu = s.cu := (characterArrives_kept s c own completed).2.2.1
@[simp] theorem characterArrives_te : (s.characterArrives c own completed).te = s.te := (characterArrives_kept s c own completed).2.2.2.1
@[simp] theorem characterArrives_am : (s.characterArrives c own completed).am = s.am := (characterArrives_kept s c own completed).2.2.2.2.1
@[simp] theorem characterArrives_inp : (s.characterArrives c own completed).inp = s.inp := (characterArrives_kept s c own completed).2.2.2.2.2.1
@[simp] theorem characterArrives_out : (s.characterArrives c own completed).out = s.out := (characterArrives_kept s c own completed).2.2.2.2.2.2.1
@[simp] theorem characterArrives_pending : (s.characterArrives c own completed).pending = s.pending := (characterArrives_kept s c own completed).2.2.2.2.2.2.2
end characterArrives

section loadInvalid
variable (s : State)
theorem loadInvalid_kept :
    (s.loadInvalid).cfg = s.cfg ∧ (s.loadInvalid).cu = s.cu ∧ (s.loadInvalid).te = s.te ∧ (s.loadInvalid).am = s.am
      ∧ (s.loadInvalid).inp = s.inp ∧ (s.loadInvalid).out = s.out ∧ (s.loadInvalid).pending = s.pending := by
  simp [State.loadInvalid]
@[simp] theorem loadInvalid_cfg : (s.loadInvalid).cfg = s.cfg := (loadInvalid_kept s).1
@[simp] theorem loadInvalid_cu : (s.loadInvalid).cu = s.cu := (loadInvalid_kept s).2.1
@[simp] theorem loadInvalid_te : (s.loadInvalid).te = s.te := (loadInvalid_kept s).2.2.1
@[simp] theorem loadInvalid_am : (s.loadInvalid).am = s.am := (loadInvalid_kept s).2.2.2.1
@[simp] theorem loadInvalid_inp : (s.loadInvalid).inp = s.inp := (loadInvalid_kept s).2.2.2.2.1
@[simp] theorem loadInvalid_out : (s.loadInvalid).out = s.out := (loadInvalid_kept s).2.2.2.2.2.1
@[simp] theorem loadInvalid_pending : (s.loadInvalid).pending = s.pending := (loadInvalid_kept s).2.2.2.2.2.2
end loadInvalid

section warnCountdown
variable (s : State)
theorem warnCountdown_kept :
    (s.warnCountdown).cfg = s.cfg ∧ (s.warnCountdown).loader = s.loader ∧ (s.warnCountdown).lp = s.lp ∧ (s.warnCountdown).stx = s.stx
      ∧ (s.warnCountdown).pt = s.pt ∧ (s.warnCountdown).pe = s.pe ∧ (s.warnCountdown).du = s.du ∧ (s.warnCountdown).cu = s.cu
      ∧ (s.warnCountdown).te = s.te ∧ (s.warnCountdown).am = s.am ∧ (s.warnCountdown).sc = s.sc ∧ (s.warnCountdown).inp = s.inp
      ∧ (s.warnCountdown).out = s.out ∧ (s.warnCountdown).pending = s.pending := by
  unfold State.warnCountdown; split <;> simp
@[simp] theorem warnCountdown_cfg : (s.warnCountdown).cfg = s.cfg := (warnCountdown_kept s).1
@[simp] theorem warnCountdown_loader : (s.warnCountdown).loader = s.loader := (warnCountdown_kept s).2.1
@[simp] theorem warnCountdown_lp : (s.warnCountdown).lp = s.lp := (warnCountdown_kept s).2.2.1
@[simp] theorem warnCountdown_stx : (s.warnCountdown).stx = s.stx := (warnCountdown_kept s).2.2.2.1
@[simp] theorem warnCountdown_pt : (s.warnCountdown).pt = s.pt := (warnCountdown_kept s).2.2.2.2.1
@[simp] theorem warnCountdown_pe : (s.warnCountdown).pe = s.pe := (warnCountdown_kept s).2.2.2.2.2.1
@[simp] theorem warnCountdown_du : (s.warnCountdown).du = s.du := (warnCountdown_kept s).2.2.2.2.2.2.1
@[simp] theorem warnCountdown_cu : (s.warnCountdown).cu = s.cu := (warnCountdown_kept s).2.2.2.2.2.2.2.1
@[simp] theorem warnCountdown_te : (s.warnCountdown).te = s.te := (warnCountdown_kept s).2.2.2.2.2.2.2.2.1
@[simp] theorem warnCountdown_am : (s.warnCountdown).am = s.am := (warnCountdown_kept s).2.2.2.2.2.2.2.2.2.1
@[simp] theorem warnCountdown_sc : (s.warnCountdown).sc = s.sc := (warnCountdown_kept s).2.2.2.2.2.2.2.2.2.2.1
@[simp] theorem warnCountdown_inp : (s.warnCountdown).inp = s.inp := (warnCountdown_kept s).2.2.2.2.2.2.2.2.2.2.2.1
@[simp] theorem warnCountdown_out : (s.warnCountdown).out = s.out := (warnCountdown_kept s).2.2.2.2.2.2.2.2.2.2.2.2.1
@[simp] theorem warnCountdown_pending : (s.warnCountdown).pending = s.pending := (warnCountdown_kept s).2.2.2.2.2.2.2.2.2.2.2.2.2
end warnCountdown

section listenWork
variable (s : State)
theorem listenWork_kept :
    (s.listenWork).cfg = s.cfg ∧ (s.listenWork).loader = s.loader ∧ (s.listenWork).pt = s.pt ∧ (s.listenWork).cu = s.cu
      ∧ (s.listenWork).te = s.te ∧ (s.listenWork).am = s.am ∧ (s.listenWork).inp = s.inp ∧ (s.listenWork).out = s.out
      ∧ (s.listenWork).pending = s.pending := by
  unfold State.listenWork; simp only []; split <;> (try split) <;> simp
@[simp] theorem listenWork_cfg : (s.listenWork).cfg = s.cfg := (listenWork_kept s).1
@[simp] theorem listenWork_loader : (s.listenWork).loader = s.loader := (listenWork_kept s).2.1
@[simp] theorem listenWork_pt : (s.listenWork).pt = s.pt := (listenWork_kept s).2.2.1
@[simp] theorem listenWork_cu : (s.listenWork).cu = s.cu := (listenWork_kept s).2.2.2.1
@[simp] theorem listenWork_te : (s.listenWork).te = s.te := (listenWork_kept s).2.2.2.2.1
@[simp] theorem listenWork_am : (s.listenWork).am = s.am := (listenWork_kept s).2.2.2.2.2.1
@[simp] theorem listenWork_inp : (s.listenWork).inp = s.inp := (listenWork_kept s).2.2.2.2.2.2.1
@[simp] theorem listenWork_out : (s.listenWork).out = s.out := (listenWork_kept s).2.2.2.2.2.2.2.1
@[simp] theorem listenWork_pending : (s.listenWork).pending = s.pending := (listenWork_kept s).2.2.2.2.2.2.2.2
end listenWork

section ignitionWork
variable (s : State)
theorem ignitionWork_kept :
    (s.ignitionWork).cfg = s.cfg ∧ (s.ignitionWork).loader = s.loader ∧ (s.ignitionWork).inp = s.inp ∧ (s.ignitionWork).out = s.out
      ∧ (s.ignitionWork).pending = s.pending := by
  unfold State.ignitionWork; simp only []; split <;> (try split) <;> simp
@[simp] theorem ignitionWork_cfg : (s.ignitionWork).cfg = s.cfg := (ignitionWork_kept s).1
@[simp] theorem ignitionWork_loader : (s.ignitionWork).loader = s.loader := (ignitionWork_kept s).2.1
@[simp] theorem ignitionWork_inp : (s.ignitionWork).inp = s.inp := (ignitionWork_kept s).2.2.1
@[simp] theorem ignitionWork_out : (s.ignitionWork).out = s.out := (ignitionWork_kept s).2.2.2.1
@[simp] theorem ignitionWork_pending : (s.ignitionWork).pending = s.pending := (ignitionWork_kept s).2.2.2.2
end ignitionWork

section leavingWork
variable (s : State)
theorem leavingWork_kept :
    (s.leavingWork).cfg = s.cfg ∧ (s.leavingWork).loader = s.loader ∧ (s.leavingWork).inp = s.inp ∧ (s.leavingWork).out = s.out
      ∧ (s.leavingWork).pending = s.pending := by
  unfold State.leavingWork; simp only []; split <;> simp
@[simp] theorem leavingWork_cfg : (s.leavingWork).cfg = s.cfg := (leavingWork_kept s).1
@[simp] theorem leavingWork_loader : (s.leavingWork).loader = s.loader := (leavingWork_kept s).2.1
@[simp] theorem leavingWork_inp : (s.leavingWork).inp = s.inp := (leavingWork_kept s).2.2.1
@[simp] theorem leavingWork_out : (s.leavingWork).out = s.out := (leavingWork_kept s).2.2.2.1
@[simp] theorem leavingWork_pending : (s.leavingWork).pending = s.pending := (leavingWork_kept s).2.2.2.2
end leavingWork

section parkedWork
variable (s : State)
theorem parkedWork_kept :
    (s.parkedWork).cfg = s.cfg ∧ (s.parkedWork).loader = s.loader ∧ (s.parkedWork).stx = s.stx ∧ (s.parkedWork).pt = s.pt
      ∧ (s.parkedWork).du = s.du ∧ (s.parkedWork).inp = s.inp ∧ (s.parkedWork).out = s.out ∧ (s.parkedWork).pending = s.pending := by
  unfold State.parkedWork; split <;> simp
@[simp] theorem parkedWork_cfg : (s.parkedWork).cfg = s.cfg := (parkedWork_kept s).1
@[simp] theorem parkedWork_loader : (s.parkedWork).loader = s.loader := (parkedWork_kept s).2.1
@[simp] theorem parkedWork_stx : (s.parkedWork).stx = s.stx := (parkedWork_kept s).2.2.1
@[simp] theorem parkedWork_pt : (s.parkedWork).pt = s.pt := (parkedWork_kept s).2.2.2.1
@[simp] theorem parkedWork_du : (s.parkedWork).du = s.du := (parkedWork_kept s).2.2.2.2.1
@[simp] theorem parkedWork_inp : (s.parkedWork).inp = s.inp := (parkedWork_kept s).2.2.2.2.2.1
@[simp] theorem parkedWork_out : (s.parkedWork).out = s.out := (parkedWork_kept s).2.2.2.2.2.2.1
@[simp] theorem parkedWork_pending : (s.parkedWork).pending = s.pending := (parkedWork_kept s).2.2.2.2.2.2.2
end parkedWork

section stationWork
variable (s : State)
theorem stationWork_kept :
    (s.stationWork).cfg = s.cfg ∧ (s.stationWork).loader = s.loader ∧ (s.stationWork).inp = s.inp ∧ (s.stationWork).out = s.out
      ∧ (s.stationWork).pending = s.pending := by
  unfold State.stationWork; split <;> simp
@[simp] theorem stationWork_cfg : (s.stationWork).cfg = s.cfg := (stationWork_kept s).1
@[simp] theorem stationWork_loader : (s.stationWork).loader = s.loader := (stationWork_kept s).2.1
@[simp] theorem stationWork_inp : (s.stationWork).inp = s.inp := (stationWork_kept s).2.2.1
@[simp] theorem stationWork_out : (s.stationWork).out = s.out := (stationWork_kept s).2.2.2.1
@[simp] theorem stationWork_pending : (s.stationWork).pending = s.pending := (stationWork_kept s).2.2.2.2
end stationWork

end Sys2Proof.Machine
end

