-- ==== Sys2Proof/Laws/Ops.lean ====
section
/-! SUPPORT. What the shared operations do, one lemma for each thing worth citing, so that a proof cites it and leaves the operation
folded; and the small algebra of slots, table slots, bytes and characters. -/

namespace Sys2Proof.Machine

/-! ### A command's answer -/

@[simp] theorem outputsOf_setOut (s : State) (x : OutPins) : outputsOf (s.setOut x) = outputsOf s := rfl
@[simp] theorem outputsOf_setPending (s : State) (x : List Instr) : outputsOf (s.setPending x) = outputsOf s := rfl
@[simp] theorem outputsOf_drivePins (s : State) : outputsOf s.drivePins = outputsOf s := rfl
@[simp] theorem drivePins_out (s : State) : s.drivePins.out = outputsOf s := rfl

/-- The only state a command can answer with is its work with the pins driven. -/
theorem answer_next {s t : State} (h : answer s = .next t) : t = s.drivePins := by
  simp only [answer, Host.Outcome.next.injEq] at h
  exact h.symm

/-! ### Setting a part of the state to what it is -/

@[simp] theorem setLp_self (s : State) : s.setLp s.lp = s := rfl
@[simp] theorem setStx_self (s : State) : s.setStx s.stx = s := rfl
@[simp] theorem setPt_self (s : State) : s.setPt s.pt = s := rfl
@[simp] theorem setStc_self (s : State) : s.setStc s.stc = s := rfl
@[simp] theorem setSc_self (s : State) : s.setSc s.sc = s := rfl

/-! ### The slots of STX -/

@[simp] theorem slotOf_withSlot_self (x : Stx) (c : SlotClass) (v : Slot) : slotOf (withSlot x c v) c = v := by
  cases c <;> rfl

theorem slotOf_withSlot_ne (x : Stx) {c d : SlotClass} (v : Slot) (h : d ≠ c) :
    slotOf (withSlot x c v) d = slotOf x d := by
  cases c <;> cases d <;> first | rfl | exact absurd rfl h

@[simp] theorem withSlot_queue (x : Stx) (c : SlotClass) (v : Slot) : (withSlot x c v).queue = x.queue := by cases c <;> rfl
@[simp] theorem withSlot_seq (x : Stx) (c : SlotClass) (v : Slot) : (withSlot x c v).seq = x.seq := by cases c <;> rfl

/-- `putStx` sets STX and, of LP, at most the access origin (R88). -/
theorem putStx_eq (s : State) (x : Stx) :
    s.putStx x = (s.setStx x).setLp
      { s.lp with
        origin :=
          if s.lp.line = .free ∧ s.lp.tx = none ∧ anyPending s.stx = false ∧ anyPending x = true then .slotPending
          else s.lp.origin } := by
  unfold State.putStx
  split <;> rfl

@[simp] theorem putStx_stx (s : State) (x : Stx) : (s.putStx x).stx = x := by simp [putStx_eq]

theorem putStx_lp_kept (s : State) (x : Stx) :
    (s.putStx x).lp.line = s.lp.line ∧ (s.putStx x).lp.tx = s.lp.tx ∧ (s.putStx x).lp.tail = s.lp.tail
      ∧ (s.putStx x).lp.rx = s.lp.rx ∧ (s.putStx x).lp.trouble = s.lp.trouble
      ∧ (s.putStx x).lp.recovery = s.lp.recovery := by
  simp [putStx_eq]

/-- `fillUrgent` does nothing, or moves the head of the queue into an EMPTY urgent slot in ACTIVE (R86). -/
theorem fillUrgent_cases (s : State) :
    s.fillUrgent = s
      ∨ s.stc.state = .active ∧ s.stx.urgent = .empty
        ∧ ∃ a rest, s.stx.queue = a :: rest
          ∧ s.fillUrgent = s.putStx { s.stx with urgent := .pending (newlyHeld (.alert a)), queue := rest } := by
  unfold State.fillUrgent
  split
  · rename_i a rest h1 h2 h3
    exact .inr ⟨h1, h2, a, rest, h3, rfl⟩
  · exact .inl rfl

theorem fillUrgent_lp_kept (s : State) :
    s.fillUrgent.lp.line = s.lp.line ∧ s.fillUrgent.lp.tx = s.lp.tx ∧ s.fillUrgent.lp.tail = s.lp.tail
      ∧ s.fillUrgent.lp.rx = s.lp.rx ∧ s.fillUrgent.lp.trouble = s.lp.trouble
      ∧ s.fillUrgent.lp.recovery = s.lp.recovery := by
  rcases fillUrgent_cases s with h | ⟨-, -, a, rest, -, h⟩ <;> rw [h]
  · simp
  · exact putStx_lp_kept s _

theorem fillUrgent_stx_kept (s : State) :
    s.fillUrgent.stx.demand = s.stx.demand ∧ s.fillUrgent.stx.standing = s.stx.standing
      ∧ s.fillUrgent.stx.seq = s.stx.seq := by
  rcases fillUrgent_cases s with h | ⟨-, -, a, rest, -, h⟩ <;> rw [h] <;> simp

/-- An alert offered outside LISTEN and ACTIVE changes nothing (R84). -/
theorem offerAlert_discarded {s : State} (a : Alert) (h : alertsTaken s.stc.state = false) : s.offerAlert a = s := by
  simp [State.offerAlert, h]

theorem offerAlert_lp_kept (a : Alert) (s : State) :
    (s.offerAlert a).lp.line = s.lp.line ∧ (s.offerAlert a).lp.tx = s.lp.tx ∧ (s.offerAlert a).lp.tail = s.lp.tail
      ∧ (s.offerAlert a).lp.rx = s.lp.rx ∧ (s.offerAlert a).lp.trouble = s.lp.trouble
      ∧ (s.offerAlert a).lp.recovery = s.lp.recovery := by
  unfold State.offerAlert
  split
  · exact fillUrgent_lp_kept _
  · simp

@[simp] theorem offer_none (s : State) : s.offer none = s := rfl
@[simp] theorem offer_some (s : State) (a : Alert) : s.offer (some a) = s.offerAlert a := rfl

/-! ### The trouble count and the standing -/

theorem standingOf_silent_iff (t : Nat) : standingOf t = .silent ↔ 192 ≤ t := by
  unfold standingOf
  split
  · simp; omega
  · split <;> simp <;> omega

theorem standingOf_speaking_iff (t : Nat) : standingOf t = .speaking ↔ t < 96 := by
  unfold standingOf
  split
  · simpa using by omega
  · split <;> simp <;> omega

/-- A change of the trouble count leaves the rest of LP alone. -/
theorem lpRaise_kept (n : Nat) (lp : Lp) :
    (lpRaise n lp).line = lp.line ∧ (lpRaise n lp).origin = lp.origin ∧ (lpRaise n lp).tx = lp.tx
      ∧ (lpRaise n lp).tail = lp.tail ∧ (lpRaise n lp).rx = lp.rx := by
  unfold lpRaise
  split <;> simp

theorem lpLower_kept (lp : Lp) :
    (lpLower lp).line = lp.line ∧ (lpLower lp).origin = lp.origin ∧ (lpLower lp).tx = lp.tx
      ∧ (lpLower lp).tail = lp.tail ∧ (lpLower lp).rx = lp.rx ∧ (lpLower lp).recovery = lp.recovery := by
  unfold lpLower
  split <;> simp

/-! ### The slots of the peer table -/

@[simp] theorem slotGet_slotSet_self (t : PeerTable) (i : Ident) (r : Option PeerRecord) : slotGet (slotSet t i r) i = r := by
  fin_cases i <;> rfl

theorem slotGet_slotSet_ne (t : PeerTable) {i j : Ident} (r : Option PeerRecord) (h : j ≠ i) :
    slotGet (slotSet t i r) j = slotGet t j := by
  fin_cases i <;> fin_cases j <;> first | rfl | exact absurd rfl h

@[simp] theorem slotGet_slotsMap (f : Option PeerRecord → Option PeerRecord) (t : PeerTable) (i : Ident) :
    slotGet (slotsMap f t) i = f (slotGet t i) := by
  fin_cases i <;> rfl

@[simp] theorem slotGet_empty (i : Ident) : slotGet PeerTable.empty i = none := by fin_cases i <;> rfl

/-- Two tables with the same slots are the same table. -/
theorem peerTable_ext {t u : PeerTable} (h : ∀ i, slotGet t i = slotGet u i) : t = u := by
  cases t
  cases u
  have h0 := h 0
  have h1 := h 1
  have h2 := h 2
  have h3 := h 3
  have h4 := h 4
  have h5 := h 5
  have h6 := h 6
  have h7 := h 7
  simp only [slotGet] at h0 h1 h2 h3 h4 h5 h6 h7
  simp [h0, h1, h2, h3, h4, h5, h6, h7]

/-! ### Numbers, bytes and characters -/

theorem clampNat_le (x : Int) (hi : Nat) : clampNat x hi ≤ hi := Nat.min_le_right _ _

@[simp] theorem ofHiLo_extract (h : Half) : ofHiLo (h.extractLsb' 8 8) (h.extractLsb' 0 8) = h := by
  apply BitVec.eq_of_getLsbD_eq
  intro i hi
  simp only [ofHiLo, BitVec.getLsbD_append, BitVec.getLsbD_extractLsb']
  interval_cases i <;> simp

/-- A two-byte field is its first byte times 256 and its second (R178). -/
theorem nat2At_eq (bytes : List Byte) (i : Nat) : nat2At bytes i = natAt bytes i * 256 + natAt bytes (i + 1) := by
  have h := (byteAt bytes (i + 1)).isLt
  simp only [nat2At, halfAt, ofHiLo, natAt, BitVec.toNat_append]
  rw [Nat.shiftLeft_eq, Nat.mul_comm, ← Nat.two_pow_add_eq_or_of_lt h, Nat.mul_comm]

@[simp] theorem length_hiLo (h : Half) : (hiLo h).length = 2 := rfl

@[simp] theorem charData_charOf (m : Bool) (b : Byte) : charData (charOf m b) = b := by
  apply BitVec.eq_of_getLsbD_eq
  intro i hi
  simp only [charData, charOf, BitVec.getLsbD_extractLsb', BitVec.getLsbD_append]
  interval_cases i <;> cases m <;> simp

@[simp] theorem charMark_charOf (m : Bool) (b : Byte) : charMark (charOf m b) = m := by
  simp only [charMark, charOf, BitVec.getLsbD_append]
  cases m <;> simp

@[simp] theorem charGood_charOf (m : Bool) (b : Byte) : charGood (charOf m b) = true := by
  simp only [charGood, charOf, BitVec.getLsbD_append]
  cases m <;> simp

theorem length_handOut (r : Nat) (xs : List (Bool × Nat)) : (handOut r xs).length = xs.length := by
  induction xs generalizing r with
  | nil => cases r <;> rfl
  | cons x xs ih =>
    obtain ⟨b, p⟩ := x
    cases r with
    | zero => simp [handOut, ih]
    | succ r => cases b <;> simp [handOut, ih]

/-- What the hand-out gives a place: one unit more where it is eligible and fewer than r eligible places stand before it. -/
theorem handOut_getElem? {xs : List (Bool × Nat)} {k : Nat} {eligible : Bool} {p : Nat} (r : Nat)
    (h : xs[k]? = some (eligible, p)) :
    (handOut r xs)[k]?
      = some (p + if eligible = true ∧ ((xs.take k).filter (·.1)).length < r then 1 else 0) := by
  induction xs generalizing r k with
  | nil => simp at h
  | cons x rest ih =>
    obtain ⟨b, q⟩ := x
    cases k with
    | zero =>
      obtain ⟨rfl, rfl⟩ : b = eligible ∧ q = p := by simpa using h
      cases r <;> cases b <;> simp [handOut]
    | succ k =>
      have h' : rest[k]? = some (eligible, p) := by simpa using h
      cases r with
      | zero => simpa [handOut] using ih 0 h'
      | succ r =>
        cases b with
        | false => simpa [handOut, Nat.lt_succ_iff] using ih (r + 1) h'
        | true => simpa [handOut, Nat.succ_lt_succ_iff] using ih r h'

end Sys2Proof.Machine
end

