-- ==== Sys2Proof/WellFormed.lean ====
section
/-! DEFINITION. Which commands can arise on the part's pins. All operands but one have exactly the width of their pins; the bytes
of an SPI transaction are a list, and a transaction clocks in 48 bytes (shared block) or 128 bytes (local block) (R176).
The meanings do not depend on this check: every command has a meaning for every operand (log 14). -/

namespace Sys2Proof

/-- The number of MISO bytes is that of one of the two transactions of R176. -/
def Instr.transactionLengthOk : Instr → Bool
  | .spiTransactionEnd miso => miso.length == 48 || miso.length == 128
  | _ => true

/-- A command that the part's surroundings can give it. -/
def Instr.WellFormed (i : Instr) : Bool := i.transactionLengthOk

end Sys2Proof
end

