-- ==== Sys2Proof/Tests/Slice0.lean ====
section
/-! SUPPORT. Our own tests: worked figures of the manual, one step each, and for every statement with hypotheses a witness that they
can be met. Expected values are the manual's (the rule or worked example stands in each docstring). -/

namespace Sys2Proof.Tests

set_option Elab.async false

open Sys2Proof Sys2Proof.Machine

/-! ### Helpers -/

/-- The state after one command. -/
def after (i : Instr) (s : State) : State :=
  match exec i s with
  | .next t => t
  | .fault _ => s
  | .refused _ => s

/-- The defaults of the shared block, with a short park delay. -/
def testShared : SharedCfg :=
  { lineRate := 0, staleAge := 3, absentAge := 25, demandAge := 3, demandHold := 10, listenPeriods := 10, slipRatio := 31
    shortPeriods := 10, vrefHold := 10, warnHold := 50, parkDelay := 5, demandRamp := 20, contFallback := 300
    slipMinSpeed := 30, shortMin := 20 }

/-- The temperature curve of the axle in section 5.7. -/
def testCurve : Curve :=
  { p0 := ⟨3584, 256⟩, p1 := ⟨5184, 256⟩, p2 := ⟨6784, 224⟩, p3 := ⟨8384, 160⟩, p4 := ⟨9984, 64⟩, p5 := ⟨11584, 0⟩ }

/-- A rising speed curve. -/
def risingCurve : Curve :=
  { p0 := ⟨0, 0⟩, p1 := ⟨50, 96⟩, p2 := ⟨100, 192⟩, p3 := ⟨150, 240⟩, p4 := ⟨200, 256⟩, p5 := ⟨300, 256⟩ }

/-- A local block of a role, by the settings of the worked examples. -/
def testLocal (roleCode : Nat) (source : Bool) : LocalCfg :=
  { Cfg.blank.loc with
    roleCode := roleCode, driveFlag := true, demandSource := source, n := 3, weight := 45, stepHold := 5, kmax := 450
    lMax := 500, lFloor := 150, lRise := 2, riseWait := 25, sensorHold := 50, slewUp := 40, supTol := 100, supPeriods := 15
    stalkHold := 25, tempCurve := testCurve, speedCurve := risingCurve, guardOn := 8384, guardOff := 7584, guardFrac := 192
    heatGain := 456, coolGain := 2796, ambient := 1184, powerOnTemp := 4224, coldTime := 3600, fbZero := 60, fbGain := 640
    tempOffset := 384, tempScale := 60, wheelScale := 4096, pedalDead := 100, pedalGain := 640, pedalDiff := 40
    stalkLevel1 := 100, stalkLevel2 := 200, stalkLevel3 := 400, stalkLevel4 := 800, kp := 64, ki := 40 }

/-- Station 3 in a role and a station state, its blocks at their power-on values but for L at L_MAX. -/
def station (roleCode : Nat) (source : Bool) (state : StationState) : State :=
  { State.reset with
    cfg := { shared := testShared, loc := testLocal roleCode source, profile := 18004 }
    stc := { Stc.powerOn with state := state, id := 3 }
    am := { Am.powerOn with limit := 500 } }

/-- Station 3 as the drive axle and demand source, in ACTIVE. -/
def axle : State := station 2 true .active

/-- Station 3 as a retarder, in ACTIVE. -/
def retarder : State := station 1 false .active

/-- Station 3 as an exhaust brake, in ACTIVE. -/
def exhaust : State := station 0 false .active

/-- A record of a peer in a role. -/
def record (role : Role) (state : RecordState) (capacity take : Half) : PeerRecord :=
  { state := state, role := role, drive := false, guard := false, speedFault := false, profile := 18004, seq := 10, age := 0
    capacity := capacity, take := take, axle := none, exhaust := none, demand := none, alert := none }

/-- The record of an axle. -/
def axleRecord (capacity limit wheel : Half) (weight : BitVec 8) : PeerRecord :=
  { record .axle .fresh capacity 0 with axle := some { limit := limit, weight := weight, wheel := wheel } }

/-- The record of an exhaust brake with three steps. -/
def exhaustRecord (capacity take : Half) : PeerRecord :=
  { record .exhaust .fresh capacity take with exhaust := some { n := 3, k := 0 } }

/-- A STANDING of an axle. -/
def standing (profile : Half) : StandingFields :=
  { role := 2, drive := false, guard := true, speedFault := false, profile := profile, capacity := 400, take := 96, limit := 400
    wheel := 200, weight := 30, n := 0, k := 0 }

/-- The character sent for a data byte. -/
def body (b : Byte) : Character := charOf false b

/-! ### Well-formed commands -/

/-- R176: a transaction clocks in 48 or 128 bytes; three bytes are no transaction. -/
theorem test_wellFormed_refuses_a_short_transaction :
    (Instr.spiTransactionEnd [0, 0, 0]).WellFormed = false
      ∧ (Instr.spiTransactionEnd (List.replicate 48 0)).WellFormed = true
      ∧ (Instr.spiTransactionEnd (List.replicate 128 0)).WellFormed = true := by decide

/-- No row of the table gives bits: no word spells a command. -/
theorem test_no_word_spells_a_command : decodeTableWord 8 0 = none ∧ decodeTableWord 32 0xFFFFFFFF = none := by decide

/-! ### Frames (section 4.2) -/

/-- R78: the register ends at 29B1 for "123456789". -/
theorem test_crc_of_the_nine_digits : crc [0x31, 0x32, 0x33, 0x34, 0x35, 0x36, 0x37, 0x38, 0x39] = 0x29B1 := by
  decide +kernel

/-- R77: a STANDING from station 5 has header A0, an ALERT from station 3 has 68; lengths 17, 6, 8 and 4. -/
theorem test_header_bytes :
    headerByte 5 (kindOf (.standing (standing 0))) = 0xA0 ∧ headerByte 3 (kindOf (.alert ⟨1, 3, 0⟩)) = 0x68
      ∧ headerLength 0xA0 = some 17 ∧ headerLength 0x64 = some 6 ∧ headerLength 0x68 = some 8 ∧ headerLength 0x6C = some 4
      ∧ headerLength 0x70 = none ∧ headerLength 0x61 = none := by decide

/-- R77: the payload of a STANDING, position by position, high bytes first. -/
theorem test_standing_payload :
    payloadOf (.standing { standing 0x4654 with n := 3, k := 2 })
      = [0x0A, 0x46, 0x54, 0x01, 0x90, 0x00, 0x60, 0x01, 0x90, 0x00, 0xC8, 30, 0x32] := by decide +kernel

/-! ### Power-on and configuration (chapters 8 and 9) -/

/-- R157: from FAULT, POWER_ON enters CONFIG with the FAULT lamp lit, WARN off and sequence number 0. -/
theorem test_power_on :
    let t := after .powerOn { station 2 true .fault with stx := { Stx.powerOn with seq := 77 } }
    t.stc.state = .config ∧ t.out.fault = true ∧ t.out.warn = false ∧ t.stx.seq = 0 := by decide +kernel

/-- R157: RESETn during a frame releases DE at once. -/
theorem test_resetn :
    let t := after .resetn { axle with lp := { axle.lp with tx := some { cls := .urgent, bytes := [0x6C, 0], idx := 0 } } }
    t.stc.state = .config ∧ t.out.de = false ∧ t.inp.resetn = false := by decide +kernel

/-- Section 8.9, Start-up: straps 3 are sampled and the read starts. -/
theorem test_configuration_read :
    let t := after (.configurationRead 3) State.reset
    t.stc.id = 3 ∧ t.out.csn = false ∧ t.out.mosi = [0x03, 0x00] ∧ t.out.fault = true := by decide +kernel

/-- One and two bytes of a number, high byte first. -/
def oneByte (n : Nat) : List Byte := [BitVec.ofNat 8 n]

def twoBytes (n : Nat) : List Byte := [BitVec.ofNat 8 (n / 256), BitVec.ofNat 8 n]

/-- A block with its CRC. -/
def withCrc (b : List Byte) : List Byte := b ++ hiLo (crc b)

/-- The shared block of the defaults, STALE_AGE given. -/
def sharedBlock (staleAge : Nat) : List Byte :=
  withCrc ((oneByte 0 ++ oneByte staleAge ++ [25, 3, 10, 10, 31, 10, 10, 50, 50, 0]) ++ twoBytes 20 ++ twoBytes 300 ++ twoBytes 30
    ++ twoBytes 20 ++ List.replicate 26 0)

/-- The bytes of a curve. -/
def curveBytes (c : Curve) : List Byte := (curvePoints c).flatMap fun p => twoBytes p.x ++ twoBytes p.f

/-- The local block of a role; L_FLOOR given, L_MAX 400 (section 9.6). -/
def localBlock (roleCode lFloor : Nat) : List Byte :=
  withCrc (([BitVec.ofNat 8 roleCode, 3, 30, 5] ++ twoBytes 450 ++ twoBytes 400 ++ twoBytes lFloor ++ twoBytes 2 ++ [25, 50]
      ++ twoBytes 40 ++ twoBytes 100 ++ [15, 25])
    ++ curveBytes testCurve ++ curveBytes risingCurve
    ++ (twoBytes 8384 ++ twoBytes 7584 ++ twoBytes 192 ++ twoBytes 456 ++ twoBytes 2796 ++ twoBytes 1184 ++ twoBytes 4224
      ++ twoBytes 3600 ++ twoBytes 60 ++ twoBytes 640 ++ twoBytes 384 ++ twoBytes 60 ++ twoBytes 4096)
    ++ (twoBytes 100 ++ twoBytes 640 ++ twoBytes 40 ++ twoBytes 100 ++ twoBytes 200 ++ twoBytes 400 ++ twoBytes 800 ++ [64, 40])
    ++ List.replicate 16 0)

/-- CONFIG with the shared transaction in progress. -/
def readingShared : State := after (.configurationRead 2) State.reset

/-- CONFIG with the local transaction in progress, the shared block accepted. -/
def readingLocal : State :=
  { readingShared with
    loader := { phase := .localBlock, firstFailed := false, sharedBytes := sharedBlock 3, profile := crc ((sharedBlock 3).take 46) } }

set_option maxRecDepth 100000 in
/-- R177 and R179: the shared block accepted, its CRC the profile code, the local transaction started. -/
theorem test_shared_block_accepted :
    let t := after (.spiTransactionEnd (sharedBlock 3)) readingShared
    t.loader.phase = .localBlock ∧ t.loader.profile = halfAt (sharedBlock 3) 46 ∧ t.out.mosi = [0x03, 0x40] := by
  decide +kernel

set_option maxRecDepth 100000 in
/-- Section 9.6: a valid read ends in LISTEN with L = 400; with L_FLOOR = 450 it ends in FAULT with cause CONFIG. -/
theorem test_local_block_decides :
    (let t := after (.spiTransactionEnd (localBlock 2 150)) readingLocal
     t.stc.state = .listen ∧ t.am.limit = 400 ∧ t.te.theta = 4224 * 2 ^ 20 ∧ t.out.fault = false)
      ∧ (let t := after (.spiTransactionEnd (localBlock 2 450)) readingLocal
        t.stc.state = .fault ∧ t.stc.cause = .config ∧ t.out.fault = true ∧ t.out.warn = false) := by decide +kernel

/-- R178: with every byte of the memory holding its own address, fields by their addresses; TEMP_OFFSET (bytes 152 and 153) is
negative, and byte 64 has neither role bits nor flags. -/
theorem test_layout_of_the_memory :
    let bytes (from' n : Nat) : List Byte := (List.range n).map fun i => BitVec.ofNat 8 (from' + i)
    let c := sharedOf (bytes 0 48)
    let l := localOf (bytes 64 128)
    [c.demandAge, c.slipRatio, c.parkDelay, c.demandRamp, c.shortMin] = [3, 6, 10, 0x0C0D, 0x1213]
      ∧ [l.n, l.stalkHold, l.kp, l.ki] = [65, 83, 172, 173]
      ∧ [l.heatGain, l.coolGain, l.tempScale, l.wheelScale, l.pedalGain, l.stalkLevel1, l.stalkLevel4]
        = [0x8A8B, 0x8C8D, 0x9A9B, 0x9C9D, 0xA0A1, 0xA4A5, 0xAAAB]
      ∧ l.tempOffset = 0x9899 - 0x10000 ∧ l.tempCurve.p5 = ⟨0x6869, 0x6A6B⟩ ∧ l.speedCurve.p0 = ⟨0x6C6D, 0x6E6F⟩
      ∧ l.roleCode = 0 ∧ l.driveFlag = false ∧ l.demandSource = false
      ∧ (localOf [0xFE]).roleCode = 2 ∧ (localOf [0x04]).driveFlag = true ∧ (localOf [0x08]).demandSource = true := by
  decide +kernel

/-! ### The plan (section 1.11) -/

/-- The coach of plan A as station 3 sees it, with the takes of retarder and exhaust brake given. -/
def coach (takeRetarder takeExhaust : Half) : State :=
  { axle with
    pt :=
      { PeerTable.empty with
        p0 := some (record .retarder .fresh 320 takeRetarder), p1 := some (exhaustRecord 150 takeExhaust)
        p2 := some (axleRecord 400 400 200 30), p4 := some (axleRecord 40 300 199 25) }
    cu := { Cu.powerOn with code := some 5000, capacity := 380 }
    du := { Du.powerOn with d := 600, phase := .sourced } }

/-- Plan A: shares 320, 150 in three steps, 96, 114 and 40, and nothing short; station 3's latest plan. -/
theorem test_plan_a :
    let p := computePlan (coach 250 100)
    ([0, 1, 2, 3, 4].map (planShare p) = [320, 150, 96, 114, 40] ∧ planStep p 1 = 3 ∧ p.s = 0)
      ∧ (after .peEvaluationExpiry (coach 250 100)).pe.plan
          = { share := 114, step := 0, ownDrive := true, t1 := 100, t2 := 250, s := 0 } := by decide +kernel

/-- Plan B: front 68, drive 30, tag 32; and after the slip cut to L = 437 the shares 287, 150, 97, 0 and 33. -/
theorem test_plan_b_and_the_cut :
    let p := computePlan (coach 320 150)
    let q := computePlan ((coach 320 150).setAm { Am.powerOn with limit := 437 })
    [0, 1, 2, 3, 4].map (planShare p) = [320, 150, 68, 30, 32]
      ∧ [0, 1, 2, 3, 4].map (planShare q) = [287, 150, 97, 0, 33] ∧ q.s = 0 := by decide +kernel

/-! ### Demand (section 2.9) -/

/-- Pedal channels, evaluation 2: demand 925, DISAGREE, and PEDAL_DISAGREE with detail 0 on its way. -/
theorem test_pedal_disagreement :
    let t := after (.duEvaluationExpiry 420 470 0) axle
    t.du.own = 925 ∧ t.du.pedal = .disagree ∧ t.du.d = 925
      ∧ t.stx.urgent = .pending { stmt := .alert { code := 4, subject := 3, detail := 0 }, seq := none, failed := 0 } := by
  decide +kernel

/-- Station 3 with the hold engaged: target 200, integral 307. -/
def holding : State :=
  { axle with
    du := { Du.powerOn with stalk := 5, hold := .holding, target := 200, integral := 307 }
    am := { axle.am with vref := 195, vrefState := .available }
    pe := { plan := { LatestPlan.empty with s := 18 }, shortfall := false, run := 0 } }

/-- Speed hold, evaluation c: Vref 195, integral 303, hold demand 283. -/
theorem test_speed_hold :
    let t := after (.duEvaluationExpiry 100 100 5) holding
    t.du.integral = 303 ∧ t.du.holdDemand = 283 ∧ t.du.own = 283 := by decide +kernel

/-! ### The peer table (chapter 3) -/

/-- R57's examples: 3 after 250 is newer; 130 after 2 and 43 after 44 are late; an equal number is a duplicate. -/
theorem test_sequence_examples :
    seqNewer 3 250 = true ∧ seqNewer 130 2 = false ∧ seqNewer 43 44 = false ∧ seqNewer 7 7 = false
      ∧ seqNewer 129 2 = true := by decide

/-- R70: the third age expiry makes a record STALE, the 25th empties it. -/
theorem test_ageing :
    let r := record .retarder .fresh 320 0
    (slotGet (after .ageExpiry { axle with pt := { PeerTable.empty with p0 := some { r with age := 2 } } }).pt 0).map (·.state)
        = some .stale
      ∧ (after .ageExpiry { axle with pt := { PeerTable.empty with p0 := some { r with state := .stale, age := 24 } } }).pt
        = PeerTable.empty := by decide +kernel

/-! ### The share line (section 4.7) -/

/-- Waits of station 3: a STANDING waits 57 bit times, a DEMAND 33; a LEAVE of a restrained station (0 × 8 + 3 + 24) × 3 = 81. -/
theorem test_access_waits :
    accessWait axle .standing = 57 ∧ accessWait axle .demand = 33
      ∧ accessWait { axle with lp := { axle.lp with trouble := 96 } } .urgent = 81 := by decide

/-- Station 3 on a FREE line with a STANDING waiting and its counter at 120. -/
def waiting : State :=
  { axle with
    lp := { axle.lp with line := .free, origin := .lineFreePoint, rx := .hunting }
    stx := { Stx.powerOn with standing := .pending { stmt := .standing (standing 18004), seq := none, failed := 0 }, seq := 120 } }

/-- Collision, retry, follow-up: after 57 bit times the STANDING starts under 120 and the counter is 121; at 56 it waits. -/
theorem test_access_wait_end :
    let t := after (.accessWaitEnd 57) waiting
    t.stx.standing = .sending { stmt := .standing (standing 18004), seq := some 120, failed := 0 } none false
      ∧ t.stx.seq = 121 ∧ t.out.de = true ∧ t.out.txd = some (charOf true 0x60)
      ∧ (after (.accessWaitEnd 56) waiting).stx = waiting.stx := by decide +kernel

/-- Station 3 with that frame under way. -/
def sending : State := after (.accessWaitEnd 57) waiting

/-- The same, at character 4: the character read back differs, and the STANDING is PENDING under its number with one failure. -/
theorem test_collision :
    let at4 := { sending with lp := { sending.lp with tx := sending.lp.tx.map fun f => { f with idx := 3 } } }
    let t := after (.characterReadBack (some (body 0)) true) at4
    t.stx.standing = .pending { stmt := .standing (standing 18004), seq := some 120, failed := 1 }
      ∧ t.out.de = false ∧ t.lp.tx = none ∧ t.stx.seq = 121 ∧ t.lp.trouble = 0 := by decide +kernel

/-- R90: the header reads back without difference, and the sequence number follows with mark 0. -/
theorem test_read_back :
    (after (.characterReadBack (some (charOf true 0x60)) true) sending).out.txd = some (charOf false 120) := by decide +kernel

/-- R76: 13 bit times of quiet leave the line BUSY; 14 make it FREE and arm the receiver. -/
theorem test_line_free_point :
    (after (.lineFreePoint 13) axle).lp.line = .busy ∧ (after (.lineFreePoint 14) axle).lp.line = .free
      ∧ (after (.lineFreePoint 14) axle).lp.rx = .hunting := by decide +kernel

/-- R76: a start bit makes the line BUSY. -/
theorem test_start_bit : (after .startBit waiting).lp.line = .busy := by decide +kernel

/-- R79 and R80: the STANDING carries the owners' values, the DEMAND d_own. -/
theorem test_formed_statements :
    (after .standingExpiry (coach 250 100)).stx.standing
        = .pending
            { stmt := .standing
                { role := 2, drive := true, guard := false, speedFault := false, profile := 18004, capacity := 380, take := 0
                  limit := 500, wheel := 0, weight := 45, n := 0, k := 0 }
              seq := none, failed := 0 }
      ∧ (after .demandExpiry { axle with du := { axle.du with own := 925 } }).stx.demand
        = .pending { stmt := .demand 925, seq := none, failed := 0 } := by decide +kernel

/-- A station hears the first three characters of a LEAVE of station 1 (header 2C, sequence 77). -/
def hearing : State :=
  { axle with
    lp := { axle.lp with
      rx := .inFrame { bytes := (frameOf 1 77 .leave).take 3, expected := 4, begunDE := false, allDE := false }, trouble := 5 }
    pt := { PeerTable.empty with p1 := some (exhaustRecord 150 0) } }

/-- Section 8.9: at a peer, LEAVE 77 makes station 1's record LEFT; the valid frame lowers the trouble count. -/
theorem test_leave_is_heard :
    let t := after (.characterReceived (body (byteAt (frameOf 1 77 .leave) 3))) hearing
    (slotGet t.pt 1).map (fun r => (r.state, r.seq)) = some (.left, 77) ∧ t.lp.trouble = 4 ∧ t.lp.rx = .hunting := by
  decide +kernel

/-- Section 8.9, Two stations with one identity: a valid frame of the own identity while silent is FAULT with both lamps lit. -/
theorem test_duplicate_identity :
    let heard := { hearing with
      lp := { hearing.lp with
        rx := .inFrame { bytes := (frameOf 3 9 .leave).take 3, expected := 4, begunDE := false, allDE := false } } }
    let t := after (.characterReceived (body (byteAt (frameOf 3 9 .leave) 3))) heard
    t.stc.state = .fault ∧ t.stc.cause = .dupId ∧ t.out.fault = true ∧ t.out.warn = true := by decide +kernel

/-! ### Capacity and the estimate (section 5.7) -/

/-- The axle on the descent: heat, cooling, code 5831, fT 244, C 428. -/
theorem test_thermal_expiry :
    let t := after .thermalExpiry
      { axle with te := { theta := 6106906624 }, sc := { Sc.powerOn with take := 96 }, am := { axle.am with w := 200 } }
    t.te.theta = 6114849525 ∧ t.cu.code = some 5831 ∧ t.cu.fT = 244 ∧ t.cu.capacity = 428 := by decide +kernel

/-- At code 8384 the guard is entered (here by cooling down to it): raw 281, C 210. -/
theorem test_guarded_capacity :
    let t := after .thermalExpiry { axle with te := { theta := 8386 * 2 ^ 20 } }
    t.cu.guarded = true ∧ t.cu.raw = 281 ∧ t.cu.capacity = 210 ∧ t.out.warn = true := by decide +kernel

/-- R105: 48 pulses in a window are an engine speed of 150; R123: with WHEEL_SCALE 4096, 12 pulses are 192. -/
theorem test_speeds_from_pulses :
    engineSpeedOf 48 = 150 ∧ wheelSpeedOf axle.cfg 12 = 192 ∧ wheelSpeedOf axle.cfg 60 = 511 := by decide

/-- R105 and R123: a pulse counts in an open window, and not before the first window. -/
theorem test_pulses :
    (after .engPulse { exhaust with cu := { exhaust.cu with engOpen := true, engPulses := 4 } }).cu.engPulses = 5
      ∧ (after .wheelPulse { axle with am := { axle.am with windowOpen := true, pulses := 4 } }).am.pulses = 5
      ∧ (after .engPulse exhaust).cu.engPulses = 0 ∧ (after .wheelPulse axle).am.pulses = 0 := by decide +kernel

/-! ### Adhesion (section 6.7) -/

/-- The drive axle of plan B with its wheel slipping. -/
def slipping : State :=
  { coach 320 150 with
    am := { axle.am with w := 170 }
    pe := { plan := { share := 30, step := 0, ownDrive := true, t1 := 150, t2 := 320, s := 0 }, shortfall := false, run := 0 }
    sc := { Sc.powerOn with take := 30 } }

/-- A slip cut: B = 500, L falls from 500 to 437, the suspension is 25; at B = 440 it would fall to 385. -/
theorem test_slip_cut :
    let t := after .amEvaluationExpiry slipping
    t.am.vref = 200 ∧ t.am.limit = 437 ∧ t.am.spacing = 0 ∧ t.am.rise = 25 ∧ cutLimit slipping.cfg 440 437 = 385 := by
  decide +kernel

/-- R124: an own wheel still at 0 makes Vref 0 and AVAILABLE; R135: of a woken station it counts once a window has closed. -/
theorem test_own_wheel :
    let woken : State := { axle with am := { axle.am with woken := true, windowOpen := true } }
    (after .amEvaluationExpiry axle).am.vrefState = .available ∧ (after .amEvaluationExpiry axle).am.vref = 0
      ∧ (after .amEvaluationExpiry woken).am.vrefState = .unavailable
      ∧ (after .amEvaluationExpiry (after (.sinkExpiry 60 0 0) woken)).am.vrefState = .available := by decide +kernel

/-- R131: at 5 evaluations since the cut slip does not cut; R133: without slip and suspension L rises by 2. -/
theorem test_spacing_and_rise :
    (after .amEvaluationExpiry { slipping with am := { slipping.am with spacing := 4, limit := 437 } }).am.limit = 437
      ∧ (after .amEvaluationExpiry { slipping with am := { slipping.am with w := 198, limit := 385 } }).am.limit = 387 := by
  decide +kernel

/-! ### The sink (section 7.9) -/

/-- A retarder coming up, expiry 3: t = 37 against 80, c = 120, DRIVE 108; falling back, c = 287 at once with DRIVE 175. -/
theorem test_retarder_sink_expiry :
    (let s := { retarder with
        pe := { plan := { LatestPlan.empty with share := 320 }, shortfall := false, run := 0 }, sc := { Sc.powerOn with c := 80 } }
     let t := after (.sinkExpiry 75 500 0) s
     t.sc.take = 37 ∧ t.sc.c = 120 ∧ t.out.drive = 108 ∧ t.sc.supCount = 0)
      ∧ (let s := { retarder with
          pe := { plan := { LatestPlan.empty with share := 287 }, shortfall := false, run := 0 }, sc := { Sc.powerOn with c := 320 } }
        let t := after (.sinkExpiry 188 500 0) s
        t.sc.take = 320 ∧ t.sc.c = 287 ∧ t.out.drive = 175) := by decide +kernel

/-- An exhaust brake at engine speed 150 and step 3, KMAX and curves giving C = 174. -/
def flapAt3 (share : Nat) : State :=
  { exhaust with
    cfg := { exhaust.cfg with loc := { exhaust.cfg.loc with kmax := 186 } }
    cu := { exhaust.cu with engOpen := true, engPulses := 48 }
    pe := { plan := { LatestPlan.empty with share := share, step := 3 }, shortfall := false, run := 0 }
    sc := { Sc.powerOn with kNow := 3 } }

/-- An exhaust flap, expiry 47: C = 174, s = 58, and step 3 gives more than the share 141, so the step is 2 and c = 116. -/
theorem test_exhaust_sink_expiry :
    let t := after (.sinkExpiry 0 500 3) (flapAt3 141)
    t.cu.capacity = 174 ∧ t.sc.take = 174 ∧ t.sc.kNow = 2 ∧ t.sc.c = 116 ∧ t.out.exs = 2 ∧ t.out.drive = 0 := by
  decide +kernel

/-! ### The station (section 8.9) -/

/-- Start-up: the tenth STC expiry in LISTEN enters ACTIVE, the ninth does not. -/
theorem test_listen_ends :
    (after (.stcEvaluationExpiry true) { station 2 true .listen with stc := { Stc.powerOn with state := .listen, listenCount := 9 } }).stc.state
        = .active
      ∧ (after (.stcEvaluationExpiry true) { station 2 true .listen with stc := { Stc.powerOn with state := .listen, listenCount := 8 } }).stc.state
        = .listen := by decide +kernel

/-- Ignition off and park: at PARK_DELAY the station enters LEAVING with the LEAVE PENDING; a second in PARKED is counted. -/
theorem test_park :
    (let t := after (.stcEvaluationExpiry false) { axle with stc := { axle.stc with ignOffCount := 4 } }
     t.stc.state = .leaving ∧ t.stx.urgent = .pending { stmt := .leave, seq := none, failed := 0 } ∧ t.stc.ignOffCount = 0)
      ∧ (after .parkTimerTick { station 2 true .parked with stc := { Stc.powerOn with state := .parked, parkTimer := 65535 } }).stc.parkTimer
        = 65535 := by decide +kernel

/-! ### Witnesses: the hypotheses of the statements can be met, each clause at a boundary of its range -/

/-- StepTakesTheFrontCommand: a queue with two commands, and an empty one. -/
theorem witness_StepTakesTheFrontCommand :
    { axle with pending := [.startBit, .ageExpiry] }.pending = .startBit :: [.ageExpiry] ∧ axle.pending = [] := by decide +kernel

/-- EveryCommandAnswers: a state whose pins follow its blocks. -/
theorem witness_EveryCommandAnswers : PinsFollow (after .startBit waiting) := by unfold PinsFollow; decide +kernel

/-- ConfigIsEnteredAndTheReadStarts: CONFIG with no read; a read in progress; another state. -/
theorem witness_ConfigIsEnteredAndTheReadStarts :
    (State.reset.stc.state = .config ∧ State.reset.loader.phase = .idle) ∧ readingShared.loader.phase ≠ .idle
      ∧ axle.stc.state ≠ .config := by decide +kernel

set_option maxRecDepth 100000 in
/-- LoaderReadsTheBlocks: a good shared block; both blocks with one bit wrong, at the first and at the second read. -/
theorem witness_LoaderReadsTheBlocks :
    (readingShared.stc.state = .config ∧ readingShared.loader.phase = .sharedBlock ∧ (sharedBlock 3).length = 48
        ∧ crc ((sharedBlock 3).take 46) = halfAt (sharedBlock 3) 46)
      ∧ (((sharedBlock 3).set 0 1).length = 48 ∧ crc (((sharedBlock 3).set 0 1).take 46) ≠ halfAt ((sharedBlock 3).set 0 1) 46
        ∧ readingShared.loader.firstFailed = false)
      ∧ (readingLocal.loader.phase = .localBlock ∧ ((localBlock 2 150).set 0 3).length = 128
        ∧ crc (((localBlock 2 150).set 0 3).take 126) ≠ halfAt ((localBlock 2 150).set 0 3) 126)
      ∧ (after (.spiTransactionEnd ((sharedBlock 3).set 0 1)) readingShared).loader.firstFailed = true := by decide +kernel

set_option maxRecDepth 100000 in
/-- ConfigurationChecks: CONFIG with the shared block accepted, and local blocks with good CRC,
of an axle and of a retarder. -/
theorem witness_ConfigurationChecks :
    (readingLocal.stc.state = .config ∧ readingLocal.loader.phase = .localBlock ∧ readingLocal.cu.guarded = false
        ∧ readingLocal.loader.sharedBytes.length = 48)
      ∧ ((localBlock 2 150).length = 128 ∧ crc ((localBlock 2 150).take 126) = halfAt (localBlock 2 150) 126)
      ∧ ((localBlock 1 150).length = 128 ∧ crc ((localBlock 1 150).take 126) = halfAt (localBlock 1 150) 126)
      ∧ ((localBlock 2 401).length = 128 ∧ crc ((localBlock 2 401).take 126) = halfAt (localBlock 2 401) 126) := by
  decide +kernel

/-- The unused bytes of the shared block are 0. -/
theorem unused_bytes_of_the_shared_block (i : Nat) (h : 20 ≤ i) (h' : i ≤ 45) :
    memByte (sharedBlock 3) (localBlock 2 150) i = 0 := by
  interval_cases i <;> decide +kernel

set_option maxRecDepth 100000 in
/-- Blocks that meet every check, with L_FLOOR at 150 below L_MAX. -/
theorem witness_the_checks : MemoryChecks (sharedBlock 3) (localBlock 2 150) := by
  refine ⟨?_, ?_, ?_, ?_, ?_, ⟨?_, unused_bytes_of_the_shared_block⟩, ?_, ?_, ?_, ?_, ?_, ?_, ?_, ?_, ?_, ?_, ?_, ?_⟩
  all_goals first | decide +kernel | (unfold CurveChecks; decide +kernel)

set_option maxRecDepth 100000 in
/-- ValidConfigurationIsPutInForce: the blocks meet every check; an axle comes in guarded or not, and a retarder. -/
theorem witness_ValidConfigurationIsPutInForce :
    MemoryChecks (sharedBlock 3) (localBlock 2 150)
      ∧ (let s := { readingLocal with cu := { Cu.powerOn with guarded := true } }
        s.cu.guarded = true ∧ (after (.spiTransactionEnd (localBlock 2 150)) s).cu.guarded = false)
      ∧ (after (.spiTransactionEnd (localBlock 2 150)) readingLocal).cu.capacity = 450
      ∧ (after (.spiTransactionEnd (localBlock 1 150)) readingLocal).cu.capacity = 0
      ∧ (after (.spiTransactionEnd (localBlock 1 150)) readingLocal).role ≠ .axle :=
  ⟨witness_the_checks, by decide +kernel, by decide +kernel, by decide +kernel, by decide +kernel⟩

set_option maxRecDepth 100000 in
/-- ConfigurationChecks: with L_FLOOR one above L_MAX the checks fail. -/
theorem witness_a_failing_check : ¬MemoryChecks (sharedBlock 3) (localBlock 2 401) := by
  intro h
  have h' : memField (sharedBlock 3) (localBlock 2 401) 72 ≤ memField (sharedBlock 3) (localBlock 2 401) 70 :=
    h.2.2.2.2.2.2.2.2.2.2.2.2.2.2.1.1
  exact absurd h' (by decide +kernel)

/-- PlanSetMembers: FRESH peers of the roles with a part, and one marked degraded-pending. -/
theorem witness_PlanSetMembers :
    slotGet (coach 250 100).pt 1 = some (exhaustRecord 150 100)
      ∧ slotGet (coach 250 100).pt 2 = some (axleRecord 400 400 200 30) ∧ (axleRecord 400 400 200 30).state = .fresh
      ∧ degradedPending { record .retarder .fresh 320 0 with
          alert := some { code := 2, subject := 0, degradedPending := true } } = true := by decide +kernel

/-- DriveAxleIsTheLowestClaimant and PlanBounds: a coach with the drive axle 3, and one without a claimant. -/
theorem witness_DriveAxleIsTheLowestClaimant :
    (driveAxle (planSet (coach 250 100))).map (·.id) = some 3 ∧ driveAxle (planSet retarder) = none
      ∧ (planSet (coach 250 100)).any (fun m => m.role == .axle && m.id != 3) = true
      ∧ (planSet (coach 250 100)).any (fun m => m.role == .exhaust) = true
      ∧ (let plain : State := { retarder with pt := { PeerTable.empty with p2 := some (axleRecord 400 300 200 30) } }
        driveAxle (planSet plain) = none ∧ (ofRole .axle (planSet plain)).map (headroom none 0 0) = [300]) := by decide +kernel

/-- LayerShares and PlanLayerSums: members of each role; layer 3 with the excess 22 below the room 362, the two equal at the demand
722, and the excess above it; a plan without retarders. -/
theorem witness_LayerShares :
    let s := coach 250 100
    let p := computePlan s
    let demanding (d : Nat) : State := { coach 250 100 with du := { Du.powerOn with d := d, phase := .sourced } }
    ((ofRole .exhaust (planSet s)).map (·.id) = [1] ∧ (ofRole .retarder (planSet s)).map (·.id) = [0]
        ∧ (ofRole .axle (planSet s)).map (·.id) = [2, 3, 4] ∧ 0 < ((ofRole .retarder (planSet s)).map (·.capacity)).sum)
      ∧ [2, 3, 4].map (planShare p) = [96, 114, 40]
      ∧ [2, 3, 4].map (planShare (computePlan (demanding 2047))) = [400, 150, 40]
      ∧ (computePlan (demanding 940)).s = 0 ∧ (computePlan (demanding 941)).s = 1
      ∧ ofRole .retarder (planSet axle) = [] ∧ (ofRole .axle (planSet axle)).length = 1 := by decide +kernel

/-- ServiceSharesAndShortfall: a plan without axles; one whose excess 22 is below the room 362; one of E = Hsum = 0 and one with
E above Hsum. -/
theorem witness_ServiceSharesAndShortfall :
    ofRole .axle (planSet retarder) = [] ∧ ofRole .axle (planSet (coach 250 100)) ≠ []
      ∧ (computePlan (coach 250 100)).s = 0 ∧ (coach 250 100).du.d ≤ 2047 ∧ (coach 250 100).stc.state = .active
      ∧ 0 < (computePlan { axle with du := { axle.du with d := 2047 } }).s := by decide +kernel

/-- PlanReplacesTheLatestPlan: ACTIVE and another state. -/
theorem witness_PlanReplacesTheLatestPlan : axle.stc.state = .active ∧ (station 2 true .listen).stc.state ≠ .active := by decide

/-- Station 3 alone in its plan, a demand D given, the shortfall state and its run count as given. -/
def shortOf (d : Nat) (on : Bool) (run : Nat) : State :=
  { axle with du := { axle.du with d := d }, pe := { Pe.idle with shortfall := on, run := run } }

/-- ShortfallStateCountsPlans: S at SHORT_MIN = 20 and one above it, with the run count at 8 and at 9 of SHORT_PERIODS = 10. -/
theorem witness_ShortfallStateCountsPlans :
    (shortOf 20 false 9).stc.state = .active ∧ (computePlan (shortOf 20 false 9)).s = 20
      ∧ (computePlan (shortOf 21 false 8)).s = 21 ∧ min testShared.shortMin 2047 = 20
      ∧ ¬(shortOf 21 false 8).pe.run + 1 ≥ testShared.shortPeriods ∧ (shortOf 21 false 9).pe.run + 1 ≥ testShared.shortPeriods
      ∧ (after .peEvaluationExpiry (shortOf 21 false 9)).pe.shortfall = true
      ∧ (after .peEvaluationExpiry (shortOf 20 true 9)).pe.shortfall = false := by decide +kernel

/-- DemandEvaluation: codes 5 and 6; readings 9, 10, 1013 and 1014; a pedal difference of PEDAL_DIFF and one more; a source, another
station, and a state without evaluations. -/
theorem witness_DemandEvaluation :
    demandRuns axle.stc.state = true ∧ axle.isSource = true ∧ (5#3).toNat ≤ 5 ∧ 5 < (6#3).toNat
      ∧ ¬(10 ≤ (9#10).toNat) ∧ 10 ≤ (10#10).toNat ∧ (1013#10).toNat ≤ 1013 ∧ ¬((1014#10).toNat ≤ 1013)
      ∧ (after (.duEvaluationExpiry 420 460 0) axle).du.pedal = .clear
      ∧ (after (.duEvaluationExpiry 420 461 0) axle).du.pedal = .disagree
      ∧ [0, 1, 2, 3, 4, 5].map (fun code => (after (.duEvaluationExpiry 100 100 code) axle).du.own) = [0, 100, 200, 400, 800, 0]
      ∧ demandRuns (station 2 true .leaving).stc.state = false := by decide +kernel

/-- SpeedHold: leaving, entering with and without Vref, waiting, holding with and without Vref, and a rise that is barred. -/
theorem witness_SpeedHold :
    (after (.duEvaluationExpiry 100 100 4) holding).du.stalk = 4 ∧ holding.du.hold = .holding
      ∧ (after (.duEvaluationExpiry 100 100 5) axle).du.stalk = 5 ∧ axle.du.hold = .off ∧ axle.du.stalk ≠ 5
      ∧ axle.am.vrefState = .unavailable ∧ holding.am.vrefState ≠ .unavailable
      ∧ (after (.duEvaluationExpiry 100 100 5) axle).du.hold = .pending
      ∧ (after (.duEvaluationExpiry 100 100 5) { holding with am := { holding.am with vref := 212 } }).du.integral = 307
      ∧ 0 < holding.pe.plan.s := by decide +kernel

/-- DemandMergeAndLoss: LOCAL; a source; a peer's demand of age 2 that counts and of age 3 that does not; each phase without a
contribution, HOLDING with the count at 9 and at DEMAND_HOLD = 10. -/
theorem witness_DemandMergeAndLoss :
    let peer (age : Nat) : PeerTable :=
      { PeerTable.empty with p0 := some { record .retarder .fresh 0 0 with demand := some { value := 300, age := age } } }
    let lost (phase : LossPhase) (count : Nat) : State :=
      { retarder with du := { retarder.du with d := 300, phase := phase, lossCount := count } }
    demandRuns retarder.stc.state = true ∧ demandRuns StationState.localOnly = true
      ∧ (after (.duEvaluationExpiry 0 0 0) { retarder with pt := peer 2 }).du.d = 300
      ∧ (after (.duEvaluationExpiry 0 0 0) { retarder with pt := peer 3 }).du.d = 0
      ∧ (after (.duEvaluationExpiry 0 0 0) (lost .sourced 0)).du.phase = .holding
      ∧ (after (.duEvaluationExpiry 0 0 0) (lost .holding 9)).du.d = 300
      ∧ (after (.duEvaluationExpiry 0 0 0) (lost .holding 10)).du.d = 280
      ∧ (after (.duEvaluationExpiry 0 0 0) (lost .ramping 10)).du.phase = .ramping
      ∧ (after (.duEvaluationExpiry 0 0 0) (lost .unsourced 0)).du.phase = .unsourced := by decide +kernel

/-- NonSourceReadsNoDriverPins: a station that is no demand source. -/
theorem witness_NonSourceReadsNoDriverPins : retarder.isSource = false := by decide

/-- AgeExpiryAgesEverySlot: FRESH at age 1 and 2 of STALE_AGE = 3, STALE at age 23 and 24 of ABSENT_AGE = 25. -/
theorem witness_AgeExpiryAgesEverySlot :
    min 255 (1 + 1) < testShared.staleAge ∧ testShared.staleAge ≤ min 255 (2 + 1)
      ∧ min 255 (23 + 1) < testShared.absentAge ∧ testShared.absentAge ≤ min 255 (24 + 1)
      ∧ slotGet (coach 250 100).pt 0 = some (record .retarder .fresh 320 250) ∧ slotGet (coach 250 100).pt 7 = none := by
  decide +kernel

/-- SequenceClasses: differences 0, 1, 127, 128 and 255 against the last sequence 250, at a FRESH and at a LEFT record. -/
theorem witness_SequenceClasses :
    let ahead (s : BitVec 8) : Nat := (s.toNat + 256 - (250#8).toNat) % 256
    [ahead 250, ahead 251, ahead 121, ahead 122, ahead 249] = [0, 1, 127, 128, 255]
      ∧ (record .axle .fresh 0 0).state = .fresh ∧ (record .axle .left 0 0).state = .left
      ∧ (standing 0).role ≠ 3 := by decide

/-- StandingArrival: a STANDING with role code 3 and one of each role; own and other profile; a record of each state, with a newer
sequence 11 and a duplicate 10. -/
theorem witness_StandingArrival :
    ({ standing 0 with role := 3 } : StandingFields).role = 3 ∧ roleOfCode (standing 0).role.toNat = some .axle
      ∧ roleOfCode 0 = some .exhaust ∧ roleOfCode 1 = some .retarder
      ∧ seqNewer 11 (record .axle .fresh 0 0).seq = true ∧ seqNewer 10 (record .axle .fresh 0 0).seq = false
      ∧ (record .axle .stale 0 0).state = .stale ∧ (record .axle .mismatch 0 0).state = .mismatch
      ∧ (standing 18004).profile = 18004 ∧ (standing 18005).profile ≠ 18004 := by decide

/-- ValueAndLeaveArrival: what is taken at FRESH with sequence 11 and not with 10, taken at STALE, never at LEFT. -/
theorem witness_ValueAndLeaveArrival :
    (∀ f, Statement.demand 5 ≠ .standing f) ∧ acceptsValue 11 (record .axle .fresh 0 0) = true
      ∧ acceptsValue 10 (record .axle .fresh 0 0) = false ∧ acceptsValue 10 (record .axle .stale 0 0) = true
      ∧ acceptsValue 11 (record .axle .left 0 0) = false
      ∧ seqNewer 11 (record .axle .left 0 0).seq = true ∧ (record .axle .mismatch 0 0).state = .mismatch := by
  refine ⟨fun f h => ?_, by decide⟩
  cases h

/-- CharactersReceived: a disarmed and a hunting receiver; a good header of a known and of an unknown kind; a frame two characters
short; a framing error; a frame complete with a wrong CRC; the trouble count at 190, 191 and 192. -/
theorem witness_CharactersReceived :
    let f : RxFrame := { bytes := (frameOf 1 77 .leave).take 2, expected := 4, begunDE := false, allDE := false }
    operating axle.stc.state = true ∧ axle.lp.rx = .disarmed ∧ waiting.lp.rx = .hunting
      ∧ charMark (charOf true 0x2C) = true ∧ charGood (charOf true 0x2C) = true ∧ headerLength (charData (charOf true 0x2C)) = some 4
      ∧ headerLength (charData (charOf true 0x2D)) = none ∧ charGood 0 = false ∧ charMark 0 = false
      ∧ f.bytes.length + 1 < f.expected ∧ hearing.lp.rx ≠ .hunting
      ∧ frameChecks ((frameOf 1 77 .leave).take 3 ++ [0xFF]) = false ∧ underDE waiting = false ∧ underDE sending = true
      ∧ (after (.characterReceived 0) { hearing with lp := { hearing.lp with trouble := 190 } }).lp.trouble = 191
      ∧ (after (.characterReceived 0) { hearing with lp := { hearing.lp with trouble := 191 } }).stc.state = .localOnly
      ∧ (after (.characterReceived 0) { hearing with stc := { hearing.stc with state := .listen }
                                                     lp := { hearing.lp with trouble := 191, recovery := 5 } }).lp.recovery = 0
      ∧ (after (.characterReceived 0) { hearing with lp := { hearing.lp with trouble := 192, recovery := 5 } }).lp.recovery = 0
      ∧ operating (station 2 true .parked).stc.state = false := by decide +kernel

/-- A station that has heard all but the last character of a frame, with a trouble count and a recovery counter. -/
def almost (state : StationState) (id : Ident) (stmt : Statement) (trouble recovery : Nat) : State :=
  let bytes := frameOf id 77 stmt
  { station 2 true state with
    lp := { Lp.powerOn with
      rx := .inFrame { bytes := bytes.take (bytes.length - 1), expected := bytes.length, begunDE := false, allDE := false }
      trouble := trouble, recovery := recovery } }

/-- The last character of that frame. -/
def lastOf (id : Ident) (stmt : Statement) : Character := body ((frameOf id 77 stmt).getLastD 0)

/-- PeerFrameIsHandedOn: the last characters of an ALERT of code 1 and of a STANDING of another profile, the count at 191. -/
theorem witness_PeerFrameIsHandedOn :
    (let t := after (.characterReceived (lastOf 1 (.alert ⟨1, 1, 30⟩))) (almost .active 1 (.alert ⟨1, 1, 30⟩) 191 0)
     t.lp.rx = .hunting ∧ t.lp.trouble = 190 ∧ t.stc.warnHold = 50)
      ∧ (let t := after (.characterReceived (lastOf 1 (.standing (standing 1)))) (almost .active 1 (.standing (standing 1)) 191 0)
        inMismatch (slotGet t.pt 1) = true ∧ inMismatch (slotGet (almost .active 1 (.standing (standing 1)) 191 0).pt 1) = false)
      ∧ charMark (lastOf 1 .leave) = false ∧ charGood (lastOf 1 .leave) = true
      ∧ ((frameOf 1 77 .leave).take 3).length + 1 = 4
      ∧ frameChecks ((frameOf 1 77 .leave).take 3 ++ [charData (lastOf 1 .leave)]) = true
      ∧ headerIdent (byteAt (frameOf 1 77 .leave) 0) ≠ (almost .active 1 .leave 191 0).stc.id := by decide +kernel

/-- The own frame completes with this character: its echo, and the same frame heard while nothing is sent. -/
theorem witness_EchoAndDuplicateIdentity :
    let echo : State := { almost .active 3 .leave 0 0 with
      lp := { (almost .active 3 .leave 0 0).lp with
        tail := .completed
        rx := .inFrame { bytes := (frameOf 3 77 .leave).take 3, expected := 4, begunDE := true, allDE := true } } }
    (underDE echo = true ∧ ownCompleted echo (lastOf 3 .leave) = true
        ∧ headerIdent (byteAt ((frameOf 3 77 .leave).take 3 ++ [charData (lastOf 3 .leave)]) 0) = echo.stc.id
        ∧ frameChecks ((frameOf 3 77 .leave).take 3 ++ [charData (lastOf 3 .leave)]) = true
        ∧ (after (.characterReceived (lastOf 3 .leave)) echo).stc.state = .active)
      ∧ underDE (almost .active 3 .leave 0 0) = false
      ∧ (after (.characterReceived (lastOf 3 .leave)) (almost .active 3 .leave 0 0)).stc.cause = .dupId := by decide +kernel

/-- RecoveryFromSilence: 126 and 127 frames counted before this one, in LOCAL, LEAVING and LISTEN, the trouble count at 192 and 255;
an ALERT of code 1; a STANDING of another profile, whose alert LOCAL discards and LISTEN takes. -/
theorem witness_RecoveryFromSilence :
    (after (.characterReceived (lastOf 1 .leave)) (almost .localOnly 1 .leave 192 126)).lp.recovery = 127
      ∧ (after (.characterReceived (lastOf 1 .leave)) (almost .localOnly 1 .leave 192 127)).stc.state = .listen
      ∧ (after (.characterReceived (lastOf 1 .leave)) (almost .leaving 1 .leave 255 127)).stc.state = .leaving
      ∧ (after (.characterReceived (lastOf 1 (.alert ⟨1, 1, 30⟩))) (almost .localOnly 1 (.alert ⟨1, 1, 30⟩) 192 126)).stc.warnHold = 50
      ∧ (let heard (state : StationState) (recovery : Nat) : List Alert :=
          (after (.characterReceived (lastOf 1 (.standing (standing 1))))
            (almost state 1 (.standing (standing 1)) 192 recovery)).stx.queue
        heard .localOnly 126 = [] ∧ heard .leaving 127 = [] ∧ heard .listen 126 = [⟨3, 1, 1⟩]
          ∧ heard .localOnly 127 = [⟨3, 1, 1⟩]) := by
  decide +kernel

/-- WholeFrameIsHeard: a hunting station that sends nothing, and a peer's identity. -/
theorem witness_WholeFrameIsHeard :
    operating waiting.stc.state = true ∧ waiting.lp.rx = .hunting ∧ waiting.lp.tx = none ∧ waiting.lp.tail = .none
      ∧ (1 : Ident) ≠ waiting.stc.id ∧ waiting.lp.trouble < 192 := by decide +kernel

/-- FormedStatementsEnterTheirSlots: ACTIVE on a FREE line with nothing PENDING; a BUSY line; a frame under way; states and stations
in which nothing is formed. -/
theorem witness_FormedStatementsEnterTheirSlots :
    let clear : State := { waiting with stx := Stx.powerOn }
    (clear.stc.state = .active ∧ clear.isSource = true ∧ clear.lp.line = .free ∧ clear.lp.tx = none
        ∧ anyPending clear.stx = false ∧ clear.stx.standing = .empty ∧ clear.stx.demand = .empty)
      ∧ axle.lp.line = .busy ∧ sending.lp.tx ≠ none ∧ anyPending waiting.stx = true
      ∧ (station 2 true .listen).stc.state ≠ .active ∧ retarder.isSource = false := by decide +kernel

/-- LineFreePointAndStartBit: a BUSY line with 14 and with 13 bit times of quiet; a FREE line; a state that does not listen. -/
theorem witness_LineFreePointAndStartBit :
    operating axle.stc.state = true ∧ axle.lp.line = .busy ∧ 14 ≤ 14 ∧ 13 < 14 ∧ waiting.lp.line = .free
      ∧ operating (station 2 true .config).stc.state = false := by decide +kernel

/-- AccessWaitEndStartsTheFrame: the STANDING waiting with nothing more urgent, at 57 and at 56 bit times, SPEAKING; the wait of a
RESTRAINED station at 129; the cases in which nothing starts. -/
theorem witness_AccessWaitEndStartsTheFrame :
    slotOf waiting.stx .standing = .pending { stmt := .standing (standing 18004), seq := none, failed := 0 }
      ∧ isPending (slotOf waiting.stx .urgent) = false ∧ isPending (slotOf waiting.stx .demand) = false
      ∧ waiting.lp.line = .free ∧ waiting.lp.origin ≠ .unset ∧ waiting.lp.tx = none ∧ waiting.lp.trouble < 192
      ∧ waiting.stc.state = .active ∧ (classNumber .standing * 8 + waiting.stc.id.val + 0) * 3 = 57
      ∧ (after (.accessWaitEnd 129) { waiting with lp := { waiting.lp with trouble := 96 } }).out.de = true
      ∧ (after (.accessWaitEnd 128) { waiting with lp := { waiting.lp with trouble := 191 } }).out.de = false
      ∧ (after (.accessWaitEnd 129) { waiting with lp := { waiting.lp with trouble := 192 } }).out.de = false
      ∧ (after (.accessWaitEnd 57) { waiting with lp := { waiting.lp with origin := .unset } }).out.de = false := by
  decide +kernel

/-- A frame of station 3 at its last character, for a statement in the urgent slot. -/
def finishing (state : StationState) (stmt : Statement) (queue : List Alert) (failed trouble : Nat) : State :=
  { station 2 true state with
    lp := { Lp.powerOn with
      tx := some { cls := .urgent, bytes := frameOf 3 9 stmt, idx := (frameOf 3 9 stmt).length - 1 }, trouble := trouble }
    stx := { Stx.powerOn with
      urgent := .sending { stmt := stmt, seq := some 9, failed := failed } none false, queue := queue, seq := 10 } }

/-- The last character of that frame, as it was sent. -/
def lastSent (stmt : Statement) : Character := body ((frameOf 3 9 stmt).getLastD 0)

/-- ReadBackGoesOn: the header of the frame under way, as sent; a station that sends nothing. -/
theorem witness_ReadBackGoesOn :
    (sending.lp.tx.map fun f => (f.idx, f.bytes.length, byteAt f.bytes f.idx)) = some (0, 17, charData (charOf true 0x60))
      ∧ charGood (charOf true 0x60) = true ∧ charMark (charOf true 0x60) = true ∧ axle.lp.tx = none := by decide +kernel

/-- FrameCompletes: an ALERT with the next alert queued, in ACTIVE and in LISTEN, and the LEAVE with the ignition off and on. -/
theorem witness_FrameCompletes :
    (let s := finishing .active (.alert ⟨1, 3, 30⟩) [⟨4, 3, 0⟩] 0 1
     AlertQueueLegal s
      ∧ (after (.characterReadBack (some (lastSent (.alert ⟨1, 3, 30⟩))) true) s).stx.urgent
          = .pending { stmt := .alert ⟨4, 3, 0⟩, seq := none, failed := 0 })
      ∧ (let s := finishing .listen (.alert ⟨1, 3, 30⟩) [⟨4, 3, 0⟩] 0 1
        let t := after (.characterReadBack (some (lastSent (.alert ⟨1, 3, 30⟩))) true) s
        AlertQueueLegal s ∧ t.stx.urgent = .empty ∧ t.stx.queue = [⟨4, 3, 0⟩])
      ∧ (after (.characterReadBack (some (lastSent .leave)) false) (finishing .leaving .leave [] 0 0)).stc.state = .parked
      ∧ (after (.characterReadBack (some (lastSent .leave)) true) (finishing .leaving .leave [] 0 0)).stc.state = .listen
      ∧ (finishing .active .leave [] 0 0).stx.queue = []
      ∧ charGood (lastSent .leave) = true ∧ charMark (lastSent .leave) = false := by
  unfold AlertQueueLegal
  decide +kernel

/-- A station in LEAVING with the frame of an ALERT under way from before (R87). -/
def notRetried (failed trouble : Nat) : State :=
  { finishing .leaving (.alert ⟨1, 3, 30⟩) [] failed trouble with
    stx := { Stx.powerOn with urgent := .sending { stmt := .alert ⟨1, 3, 30⟩, seq := some 9, failed := failed } none true } }

/-- FailedAttempts: the first, second and third failure; no character read back and a wrong one; the trouble count at 183, 184, 191
and 192; the next alert after the third failure; a frame that is not retried; the LEAVE at its third failure. -/
theorem witness_FailedAttempts :
    ((finishing .active .leave [] 2 0).lp.tx.map (·.cls)) = some .urgent
      ∧ (after (.characterReadBack none true) (finishing .active (.alert ⟨1, 3, 30⟩) [] 1 0)).stx.urgent
          = .pending { stmt := .alert ⟨1, 3, 30⟩, seq := some 9, failed := 2 }
      ∧ (after (.characterReadBack none true) (finishing .active (.alert ⟨1, 3, 30⟩) [] 2 183)).stc.state = .active
      ∧ (after (.characterReadBack none true) (finishing .active (.alert ⟨1, 3, 30⟩) [] 2 184)).stc.state = .localOnly
      ∧ (after (.characterReadBack (some 0) true) (finishing .active (.alert ⟨1, 3, 30⟩) [] 2 191)).lp.trouble = 199
      ∧ (after (.characterReadBack (some 0) true) (finishing .listen (.alert ⟨1, 3, 30⟩) [] 2 192)).lp.trouble = 192
      ∧ (after (.characterReadBack (some 0) true) (finishing .active (.alert ⟨1, 3, 30⟩) [⟨4, 3, 0⟩] 2 0)).stx.urgent
          = .pending { stmt := .alert ⟨4, 3, 0⟩, seq := none, failed := 0 }
      ∧ (after (.characterReadBack (some 0) true) (notRetried 0 5)).stx.urgent = .empty
      ∧ (after (.characterReadBack (some 0) true) (notRetried 0 5)).lp.trouble = 5
      ∧ (after (.characterReadBack (some 0) true) (notRetried 2 5)).lp.trouble = 13
      ∧ (after (.characterReadBack none false) (finishing .leaving .leave [] 2 0)).stc.state = .parked
      ∧ (after (.characterReadBack none true) (finishing .leaving .leave [] 2 0)).stc.state = .listen := by decide +kernel

/-- AlertQueueTakesAlerts: a known alert, a new one at 3 entries and at 4; states that take alerts and one that does not. -/
theorem witness_AlertQueueTakesAlerts :
    enqueue ⟨1, 3, 9⟩ [⟨2, 3, 0⟩, ⟨1, 3, 0⟩] = [⟨2, 3, 0⟩, ⟨1, 3, 9⟩]
      ∧ (enqueue ⟨6, 3, 9⟩ [⟨2, 3, 0⟩, ⟨1, 3, 0⟩, ⟨4, 3, 0⟩]).length = 4
      ∧ enqueue ⟨6, 3, 9⟩ [⟨2, 3, 0⟩, ⟨1, 3, 0⟩, ⟨4, 3, 0⟩, ⟨5, 3, 0⟩] = [⟨2, 3, 0⟩, ⟨1, 3, 0⟩, ⟨4, 3, 0⟩, ⟨5, 3, 0⟩]
      ∧ axle.stx.urgent = .empty ∧ axle.stx.queue = [] ∧ (finishing .active .leave [] 0 0).stx.urgent ≠ .empty
      ∧ (State.offerAlert ⟨1, 3, 9⟩ { waiting with stx := Stx.powerOn }).lp.origin = .slotPending
      ∧ (State.offerAlert ⟨1, 3, 9⟩ waiting).lp.origin = .lineFreePoint
      ∧ (station 2 true .leaving).stc.state ≠ .listen := by decide +kernel

/-- CurveReading: a curve that the checks pass, read below, at and between its points, and past its end. -/
theorem witness_CurveReading :
    curveOk testCurve = true ∧ curveOk risingCurve = true ∧ (curvePoints testCurve)[1]? = some ⟨5184, 256⟩
      ∧ (curvePoints testCurve)[2]? = some ⟨6784, 224⟩ ∧ curveRead testCurve 3584 = 256 ∧ curveRead testCurve 5831 = 244
      ∧ curveRead testCurve 6784 = 224 ∧ curveRead testCurve 11584 = 0 ∧ curveRead risingCurve 75 = 144 := by decide

/-- AdvertisedCapacity: each line of R107, for a code in force and without one, guarded and clear. -/
theorem witness_AdvertisedCapacity :
    let c := axle.cfg
    let cu : Cu := { Cu.powerOn with code := some 5831 }
    (cuForm c axle.am Sc.powerOn cu).capacity = 428 ∧ (cuForm c axle.am { Sc.powerOn with degraded := true } cu).capacity = 0
      ∧ (cuForm c axle.am { Sc.powerOn with tempHold := true } cu).capacity = 0 ∧ (cuForm c axle.am Sc.powerOn Cu.powerOn).capacity = 0
      ∧ (cuForm c axle.am Sc.powerOn { cu with guarded := true }).capacity = 321
      ∧ cfgRole retarder.cfg = .retarder ∧ cfgRole exhaust.cfg = .exhaust ∧ curveOk c.loc.tempCurve = true := by decide

/-- ThermalExpiryHeatsAndCools: an axle in a state with thermal expiries; another role; a state without them. -/
theorem witness_ThermalExpiryHeatsAndCools :
    operating axle.stc.state = true ∧ axle.role = .axle ∧ retarder.role ≠ .axle
      ∧ operating (station 2 true .parked).stc.state = false
      ∧ (after .thermalExpiry { axle with te := { theta := 8384 * 2 ^ 20 }, cu := { Cu.powerOn with guarded := true } }).cu.guarded
          = true
      ∧ (after .thermalExpiry { axle with te := { theta := 5831 * 2 ^ 20 }, sc := { Sc.powerOn with degraded := true } }).cu.capacity
          = 0
      ∧ (after .thermalExpiry { axle with te := { theta := 5831 * 2 ^ 20 }, sc := { Sc.powerOn with tempHold := true } }).cu.fT
          = 244 := by decide +kernel

/-- TicksAndPulsesCount: PARKED and not; the roles with pulses, their windows open and closed. -/
theorem witness_TicksAndPulsesCount :
    (station 2 true .parked).stc.state = .parked ∧ axle.stc.state ≠ .parked ∧ exhaust.role = .exhaust ∧ axle.role = .axle
      ∧ (flapAt3 0).cu.engOpen = true ∧ axle.am.windowOpen = false ∧ operating exhaust.stc.state = true := by decide +kernel

/-- ReferenceSpeed: the own wheel and two FRESH axles as members; the own wheel alone, at 0; a woken station's before its first
closed window; none with Vref available, held at 9 and at VREF_HOLD = 10, and unavailable. -/
theorem witness_ReferenceSpeed :
    let held (state : VrefState) (count : Nat) : State :=
      { retarder with am := { retarder.am with vref := 200, vrefState := state, vrefHold := count } }
    (after .amEvaluationExpiry (coach 250 100)).am.vref = 200
      ∧ axle.am.woken = false ∧ (after .amEvaluationExpiry axle).am.vrefState = .available
      ∧ (after .amEvaluationExpiry { axle with am := { axle.am with woken := true } }).am.vrefState = .unavailable
      ∧ (after .amEvaluationExpiry (held .available 0)).am.vrefState = .held
      ∧ (after .amEvaluationExpiry (held .held 9)).am.vref = 200 ∧ (after .amEvaluationExpiry (held .held 10)).am.vref = 0
      ∧ (after .amEvaluationExpiry (held .unavailable 0)).am.vrefState = .unavailable
      ∧ operating (station 2 true .fault).stc.state = false := by decide +kernel

/-- SpeedFaultAndAdhesionLimit: a still wheel with the brake off at counts 48 and 49; a set flag with the wheel still and turning; a
cut with the spacing count at 6 and none at 5; suspension 1 and 0. -/
theorem witness_SpeedFaultAndAdhesionLimit :
    let with' (f : Am → Am) : State := { slipping with am := f slipping.am }
    let still (count : Nat) : State :=
      { slipping with am := { slipping.am with w := 0, faultCount := count }, sc := Sc.powerOn }
    (after .amEvaluationExpiry (still 49)).am.faultFlag = true ∧ (after .amEvaluationExpiry (still 48)).am.faultCount = 49
      ∧ (after .amEvaluationExpiry (still 49)).am.limit = 150
      ∧ (after .amEvaluationExpiry (with' fun a => { a with w := 0, faultFlag := true })).am.faultFlag = true
      ∧ (after .amEvaluationExpiry (with' fun a => { a with w := 1, faultFlag := true })).am.faultFlag = false
      ∧ (after .amEvaluationExpiry (with' fun a => { a with spacing := 5 })).am.limit = 437
      ∧ (after .amEvaluationExpiry (with' fun a => { a with spacing := 4 })).am.limit = 500
      ∧ (after .amEvaluationExpiry (with' fun a => { a with w := 198, limit := 400, rise := 1 })).am.limit = 400
      ∧ (after .amEvaluationExpiry (with' fun a => { a with w := 198, limit := 400 })).am.limit = 402 := by decide +kernel

/-- ProportionalSinkExpiry: readings 10 and 1013, a mismatch of SUP_TOL = 100, and of 101 at the supervision counts 13 and 14 of
SUP_PERIODS = 15; a target above and below the command; the axle's window and its first. -/
theorem witness_ProportionalSinkExpiry :
    let s : State := { retarder with
      pe := { Pe.idle with plan := { LatestPlan.empty with share := 300 } }, sc := { Sc.powerOn with c := 100 } }
    (operating s.stc.state = true ∧ s.role ≠ .exhaust ∧ s.sc.degraded = false ∧ 10 ≤ (10#10).toNat ∧ (1013#10).toNat ≤ 1013
        ∧ min 2047 (((10#10).toNat - 60) * 640 / 256) = 0 ∧ |(0 : Int) - s.sc.c| ≤ min s.cfg.loc.supTol 2047)
      ∧ (after (.sinkExpiry 10 500 0) s).sc.c = 140
      ∧ (after (.sinkExpiry 100 500 0) { s with pe := Pe.idle }).sc.c = 0
      ∧ (let off (count : Nat) : State := { s with sc := { Sc.powerOn with c := 101, supCount := count } }
        (after (.sinkExpiry 10 500 0) (off 13)).sc.supCount = 14 ∧ (after (.sinkExpiry 10 500 0) (off 13)).sc.c = 141
          ∧ ¬(min 255 ((off 14).sc.supCount + 1) < max 1 s.cfg.loc.supPeriods))
      ∧ (after (.sinkExpiry 60 0 0) { axle with am := { axle.am with windowOpen := true, pulses := 12 } }).am.w = 192
      ∧ (after (.sinkExpiry 60 0 0) { axle with am := { axle.am with pulses := 12 } }).am.windowOpen = true := by
  decide +kernel

/-- ExhaustSinkExpiry: flap code at n = 3 with a matching take; outside ACTIVE; a planned step above, at and below the one in
force, the hold count at 3 and at 4 of STEP_HOLD = 5; out of tolerance at the supervision count 13 of SUP_PERIODS = 15; the first
window. -/
theorem witness_ExhaustSinkExpiry :
    let s (k now hold : Nat) : State := { flapAt3 174 with
      pe := { plan := { LatestPlan.empty with share := 174, step := k }, shortfall := false, run := 0 }
      sc := { Sc.powerOn with kNow := now, riseHold := hold } }
    ((s 3 1 4).role = .exhaust ∧ (s 3 1 4).sc.degraded = false ∧ (3#3).toNat ≤ (s 3 1 4).cfg.loc.n
        ∧ operating (s 3 1 4).stc.state = true)
      ∧ (after (.sinkExpiry 0 500 1) (s 3 1 4)).sc.kNow = 2 ∧ (after (.sinkExpiry 0 500 1) (s 3 1 3)).sc.kNow = 1
      ∧ (after (.sinkExpiry 0 500 3) (s 3 3 0)).sc.kNow = 3 ∧ (after (.sinkExpiry 0 500 3) (s 2 3 0)).sc.kNow = 2
      ∧ (after (.sinkExpiry 0 500 1) (s 3 1 4)).sc.take = 1 * 58 ∧ (after (.sinkExpiry 0 500 1) (s 3 1 4)).cu.capacity / 3 = 58
      ∧ (let off : State := { s 3 3 0 with sc := { Sc.powerOn with kNow := 3, supCount := 13 } }
        (after (.sinkExpiry 0 500 1) off).sc.supCount = 14 ∧ (after (.sinkExpiry 0 500 1) off).sc.kNow = 3)
      ∧ (after (.sinkExpiry 0 500 1) { s 3 1 4 with cu := { Cu.powerOn with engSpeed := 150 } }).cu.engSpeed = 150
      ∧ (after (.sinkExpiry 0 500 0) { s 3 0 4 with stc := { Stc.powerOn with state := .listen } }).sc.kNow = 0 := by
  decide +kernel

/-- TemperatureSensorHold: readings 10, 9, 1013 and 1014; the hold count at 49 and at 50 of SENSOR_HOLD = 50; an axle. -/
theorem witness_TemperatureSensorHold :
    let held (count : Nat) : State := { retarder with sc := { Sc.powerOn with tempHoldCount := count } }
    (after (.sinkExpiry 60 10 0) retarder).cu.code = some 421 ∧ (after (.sinkExpiry 60 1013 0) retarder).cu.code = some 4182
      ∧ (after (.sinkExpiry 60 9 0) retarder).cu.code = none ∧ (after (.sinkExpiry 60 1014 0) retarder).sc.tempHoldCount = 1
      ∧ (after (.sinkExpiry 60 9 0) (held 49)).sc.tempHold = false ∧ (after (.sinkExpiry 60 9 0) (held 50)).sc.tempHold = true
      ∧ operating retarder.stc.state = true ∧ axle.role = .axle := by decide +kernel

/-- SinkBecomesDegraded: readings 9 and flap code 4 out of range; the supervision count at 13 and at 14 of SUP_PERIODS = 15, of a
retarder and of an exhaust brake; a sink already DEGRADED. -/
theorem witness_SinkBecomesDegraded :
    let off (count : Nat) : State := { retarder with sc := { Sc.powerOn with c := 101, supCount := count } }
    (after (.sinkExpiry 9 500 0) retarder).sc.cause = .feedbackRange
      ∧ (after (.sinkExpiry 0 500 4) exhaust).sc.cause = .positionRange
      ∧ (after (.sinkExpiry 60 500 0) (off 14)).sc.cause = .tolerance
      ∧ (after (.sinkExpiry 60 500 0) (off 13)).sc.degraded = false
      ∧ (after (.sinkExpiry 60 500 0) (off 13)).sc.supCount = 14
      ∧ (after (.sinkExpiry 0 500 1) { flapAt3 174 with sc := { Sc.powerOn with kNow := 3, supCount := 14 } }).sc.cause = .tolerance
      ∧ (after (.sinkExpiry 100 500 0) { retarder with
          sc := { Sc.powerOn with degraded := true, cause := .tolerance } }).sc.take = 100 := by decide +kernel

/-- DriveCodeInvertsTheTake: commands 1 and 287 with FB_ZERO 60 and FB_GAIN 640; 287 comes back from code 175. -/
theorem witness_DriveCodeInvertsTheTake :
    driveCode retarder.cfg 1 = 61 ∧ driveCode retarder.cfg 287 = 175 ∧ feedbackTake retarder.cfg 175 = 287
      ∧ 1 ≤ retarder.cfg.loc.fbGain ∧ 10 ≤ driveCode retarder.cfg 287 ∧ driveCode retarder.cfg 287 ≤ 1013 := by decide

/-- StationEvaluation: each state, its count one short of the limit and at it, and LISTEN at the limit with the trouble count at 191
and at 192. -/
theorem witness_StationEvaluation :
    let at' (state : StationState) (listen off leave trouble : Nat) : State :=
      { station 2 true state with
        stc := { Stc.powerOn with state := state, listenCount := listen, ignOffCount := off, leaveCount := leave }
        lp := { Lp.powerOn with trouble := trouble } }
    let next (ign : Bool) (s : State) : StationState := (after (.stcEvaluationExpiry ign) s).stc.state
    next true (at' .listen 8 0 0 0) = .listen ∧ next true (at' .listen 9 0 0 191) = .active
      ∧ next true (at' .listen 9 0 0 192) = .localOnly ∧ next false (at' .active 0 3 0 0) = .active
      ∧ next false (at' .active 0 4 0 0) = .leaving ∧ next false (at' .localOnly 0 3 0 192) = .localOnly
      ∧ next false (at' .localOnly 0 4 0 192) = .parked ∧ next false (at' .leaving 0 0 8 0) = .leaving
      ∧ next false (at' .leaving 0 0 9 0) = .parked ∧ next true (at' .leaving 0 0 9 0) = .listen
      ∧ next true (at' .config 0 0 0 0) = .config ∧ next true (at' .fault 0 0 0 0) = .fault := by decide +kernel

/-- WakeFromPark: PARKED for 600 s of COLD_TIME = 3600 and for 3600 s, with the ignition off and on. -/
theorem witness_WakeFromPark :
    let parked (seconds : Nat) : State :=
      { station 2 true .parked with
        stc := { Stc.powerOn with state := .parked, parkTimer := seconds }, te := { theta := 4784 * 2 ^ 20 } }
    (parked 600).stc.state = .parked ∧ (after (.stcEvaluationExpiry false) (parked 600)).stc.state = .parked
      ∧ (after (.stcEvaluationExpiry true) (parked 600)).te.theta = 4184 * 2 ^ 20
      ∧ (after (.stcEvaluationExpiry true) (parked 3599)).te.theta = 1185 * 2 ^ 20
      ∧ (after (.stcEvaluationExpiry true) (parked 3600)).te.theta = 1184 * 2 ^ 20
      ∧ (after (.stcEvaluationExpiry true) { parked 600 with
          cfg := retarder.cfg, cu := { Cu.powerOn with code := some 4000 } }).cu.code = none
      ∧ thetaAmb axle.cfg ≤ 4784 * 2 ^ 20 ∧ 1 ≤ axle.cfg.loc.coldTime := by decide +kernel

/-- StationTransitions and LampOutputs: commands that answer, in a state that changes and in one that stays. -/
theorem witness_StationTransitions :
    exec .startBit axle = .next (after .startBit axle)
      ∧ exec .resetn axle = .next (after .resetn axle) ∧ (after .resetn axle).stc.state = .config
      ∧ (after .startBit axle).stc.state = .active ∧ (after .startBit axle).out.fault = false :=
  ⟨rfl, rfl, by decide +kernel⟩

/-- The statements on what every step keeps: LISTEN with alerts queued, a command waiting. -/
def stepping : State :=
  { station 2 true .listen with
    lp := { Lp.powerOn with
      line := .free, trouble := 96
      rx := .inFrame { bytes := [0x2C], expected := 4, begunDE := false, allDE := false } }
    stx := { Stx.powerOn with queue := [⟨2, 3, 1⟩, ⟨4, 3, 0⟩] }
    pt := { PeerTable.empty with p2 := some (axleRecord 400 400 200 30), p1 := some (record .retarder .left 0 0) }
    te := { theta := 4224 * 2 ^ 20 }
    pending := [.stcEvaluationExpiry true] }

/-- A step of it answers. -/
theorem witness_step : step stepping = .next (after (.stcEvaluationExpiry true) { stepping with pending := [] }) := rfl

/-- AlertQueueStaysLegal. -/
theorem witness_AlertQueueStaysLegal : AlertQueueLegal stepping := by unfold AlertQueueLegal; decide +kernel

/-- OneFrameAtATime: nothing under way, and a frame under way. -/
theorem witness_OneFrameAtATime : OneFrame stepping ∧ OneFrame sending := by
  refine ⟨⟨fun cls => ?_, fun h => absurd h (by unfold quiet; decide)⟩,
    ⟨fun cls => ?_, fun h => absurd h (by unfold quiet; decide +kernel)⟩⟩
  · cases cls <;> (intro f h; cases h)
  · cases cls
    · exact fun f h => by
        rw [← Option.some.inj h]
        decide
    · exact fun f h => by
        rw [← Option.some.inj h]
        decide
    · exact ⟨by decide, _, 120, rfl, rfl, rfl, rfl, by decide +kernel⟩

/-- StandingAndReceiverStayLegal. -/
theorem witness_StandingAndReceiverStayLegal : StandingLegal stepping ∧ ReceiverLegal stepping := by
  refine ⟨by unfold StandingLegal; decide +kernel, fun f h => ?_⟩
  obtain rfl := Receiver.inFrame.inj h
  decide +kernel

/-- PeerTableStaysLegal: a FRESH axle and a LEFT retarder. -/
theorem witness_PeerTableStaysLegal : TableLegal stepping := by
  refine ⟨by decide +kernel, fun i r h => ?_, fun h => absurd h (by unfold quiet; decide)⟩
  have all : ∀ i, slotGet stepping.pt i = none ∨ slotGet stepping.pt i = some (axleRecord 400 400 200 30)
      ∨ slotGet stepping.pt i = some (record .retarder .left 0 0) := by decide +kernel
  rcases all i with e | e | e <;> rw [e] at h
  · cases h
  · obtain rfl := Option.some.inj h
    unfold RecordLegal
    decide +kernel
  · obtain rfl := Option.some.inj h
    unfold RecordLegal
    decide +kernel

/-- QuietStatesHoldNothing: an operating state, and PARKED. -/
theorem witness_QuietStatesHoldNothing :
    QuietLegal stepping ∧ PlanLegal stepping ∧ CauseLegal stepping ∧ QuietLegal (station 2 true .parked)
      ∧ CauseLegal (station 2 true .parked) := by
  unfold QuietLegal PlanLegal CauseLegal quiet
  decide +kernel

/-- DemandAndCommandStayLegal. -/
theorem witness_DemandAndCommandStayLegal :
    DemandLegal stepping ∧ CommandLegal stepping ∧ LocalCommandLegal stepping ∧ DegradedLegal stepping := by
  unfold DemandLegal CommandLegal LocalCommandLegal DegradedLegal
  decide +kernel

/-- CapacityAndEstimateStayInRange and AdhesionStaysInRange: a configured axle. -/
theorem witness_CapacityEstimateAndAdhesion :
    CapacityLegal stepping ∧ EstimateLegal stepping ∧ AdhesionLegal stepping ∧ SpeedLegal stepping := by
  have config : ConfigLegal stepping := by
    unfold ConfigLegal configured
    decide +kernel
  refine ⟨⟨config, by decide +kernel⟩, ⟨config, ?_⟩, ⟨config, ?_⟩, ?_⟩
  all_goals first | unfold configured | unfold SpeedLegal
  all_goals decide +kernel

end Sys2Proof.Tests
end

section
/-! PROOFS. The apportioning plan (spec/01): the sums and the shares of the three layers, and the statements about plans. -/

namespace Sys2Proof.Apportioning

open Sys2Proof Sys2Proof.Machine

/-! ### Members in ascending identity -/

/-- A list of members in strictly ascending identity, as the plan set is (R3). -/
def Ascending (ms : List Member) : Prop := ms.Pairwise fun x y => x.id < y.id

theorem Ascending.filter {ms : List Member} (asc : Ascending ms) (f : Member → Bool) : Ascending (ms.filter f) :=
  List.Pairwise.filter f asc

theorem Ascending.ofRole {ms : List Member} (asc : Ascending ms) (role : Role) : Ascending (ofRole role ms) := asc.filter _

theorem Ascending.membersBelow {ms : List Member} (asc : Ascending ms) (m : Member) : Ascending (membersBelow ms m) :=
  asc.filter _

theorem Ascending.eq_of_id_eq {ms : List Member} (asc : Ascending ms) {x y : Member} (hx : x ∈ ms) (hy : y ∈ ms)
    (h : x.id = y.id) : x = y := by
  have nodup : (ms.map (·.id)).Nodup := List.pairwise_map.mpr (asc.imp fun lt => ne_of_lt lt)
  exact List.inj_on_of_nodup_map nodup hx hy h

/-- A member of the plan set has the identity it was looked up by, and a counted weight share of at least 1 (R5). -/
theorem memberAt_some {s : State} {i : Ident} {m : Member} (h : memberAt s i = some m) : m.id = i ∧ 1 ≤ m.weight := by
  unfold memberAt at h
  split at h
  next own =>
    obtain rfl := Option.some.inj h
    exact ⟨own.symm, Nat.le_max_left ..⟩
  next =>
    split at h
    next r _ =>
      split at h
      · obtain rfl := Option.some.inj h
        exact ⟨rfl, Nat.le_max_left ..⟩
      · cases h
    next => cases h

theorem planSet_ascending (s : State) : Ascending (planSet s) := by
  have idents_ascending : idents.Pairwise (· < ·) := by decide
  refine List.Pairwise.filterMap (memberAt s) (fun i j lt m hm m' hm' => ?_) idents_ascending
  rwa [(memberAt_some hm).1, (memberAt_some hm').1]

theorem weight_pos_of_mem_planSet {s : State} {m : Member} (h : m ∈ planSet s) : 1 ≤ m.weight := by
  obtain ⟨i, -, hi⟩ := List.mem_filterMap.mp h
  exact (memberAt_some hi).2

theorem mem_ofRole {role : Role} {ms : List Member} {m : Member} : m ∈ ofRole role ms ↔ m ∈ ms ∧ m.role = role := by
  simp [ofRole]

/-- The members below one of an ascending list are those before it. -/
theorem membersBelow_of_getElem? {ms : List Member} (asc : Ascending ms) {k : Nat} {m : Member} (h : ms[k]? = some m) :
    membersBelow ms m = ms.take k := by
  induction ms generalizing k with
  | nil => simp at h
  | cons x rest ih =>
    obtain ⟨below, asc_rest⟩ := List.pairwise_cons.mp asc
    cases k with
    | zero =>
      obtain rfl : x = m := by simpa using h
      simpa [membersBelow] using fun y hy => le_of_lt (below y hy)
    | succ k =>
      have h' : rest[k]? = some m := by simpa using h
      have lt : x.id < m.id := below m (List.mem_of_getElem? h')
      simpa [membersBelow, lt] using ih asc_rest h'

/-- Below a member that itself stands below `m`, leaving out those not below `m` leaves out nobody. -/
theorem membersBelow_membersBelow {ms : List Member} {m x : Member} (h : x ∈ membersBelow ms m) :
    membersBelow (membersBelow ms m) x = membersBelow ms x := by
  have lt : x.id < m.id := by simpa using (List.mem_filter.mp h).2
  unfold membersBelow
  rw [List.filter_filter]
  refine List.filter_congr fun y _ => ?_
  simpa using fun hy => lt_trans hy lt

/-! ### Handing out a remainder (R16, R22, R27) -/

/-- The unit of a remainder `r` that a member gets: one while it lasts, to the eligible members in ascending identity. -/
def unitOf (eligible : Member → Bool) (r : Nat) (ms : List Member) (m : Member) : Nat :=
  if eligible m = true ∧ ((membersBelow ms m).filter eligible).length < r then 1 else 0

theorem handOut_map {ms : List Member} (asc : Ascending ms) (r : Nat) (eligible : Member → Bool) (p : Member → Nat) :
    handOut r (ms.map fun m => (eligible m, p m)) = ms.map fun m => p m + unitOf eligible r ms m := by
  refine List.ext_getElem? fun k => ?_
  cases h : ms[k]? with
  | none =>
    have past : ms.length ≤ k := List.getElem?_eq_none_iff.mp h
    simp [length_handOut, past]
  | some m =>
    have place : (ms.map fun m => (eligible m, p m))[k]? = some (eligible m, p m) := by simp [h]
    rw [handOut_getElem? r place, List.getElem?_map, h, Option.map_some, unitOf, membersBelow_of_getElem? asc h,
      ← List.map_take, List.filter_map, List.length_map]
    rfl

/-- What a layer makes of its members: each beside its share of the hand-out. -/
theorem zip_handOut_map {α : Type} {ms : List Member} (asc : Ascending ms) (f : Member → α) (r : Nat)
    (eligible : Member → Bool) (p : Member → Nat) :
    (ms.map f).zip (handOut r (ms.map fun m => (eligible m, p m)))
      = ms.map fun m => (f m, p m + unitOf eligible r ms m) := by
  rw [handOut_map asc, List.zip_map']

theorem sum_handOut (r : Nat) (xs : List (Bool × Nat)) :
    (handOut r xs).sum = (xs.map (·.2)).sum + min r (xs.filter (·.1)).length := by
  induction xs generalizing r with
  | nil => cases r <;> rfl
  | cons x rest ih =>
    obtain ⟨eligible, p⟩ := x
    cases r with
    | zero => simp [handOut, ih]
    | succ r =>
      cases eligible with
      | false => simp [handOut, ih]; omega
      | true => simp [handOut, ih]; omega

theorem sum_add_unitOf {ms : List Member} (asc : Ascending ms) (r : Nat) (eligible : Member → Bool) (p : Member → Nat) :
    (ms.map fun m => p m + unitOf eligible r ms m).sum = (ms.map p).sum + min r (ms.filter eligible).length := by
  rw [← handOut_map asc, sum_handOut, List.filter_map, List.length_map, List.map_map]
  rfl

theorem length_filter_eq_sum (f : Member → Bool) (ms : List Member) :
    (ms.filter f).length = (ms.map fun m => if f m = true then 1 else 0).sum := by
  induction ms with
  | nil => rfl
  | cons m rest ih => cases h : f m <;> simp [h, ih, Nat.add_comm]

/-! ### Dividing a total in proportion to weights -/

/-- A member's part of `b` in proportion to the weights `w`, rounded down. -/
def part (b : Nat) (w : Member → Nat) (ms : List Member) (m : Member) : Nat := b * w m / (ms.map w).sum

/-- What rounding down leaves of `b`. -/
def remainder (b : Nat) (w : Member → Nat) (ms : List Member) : Nat := b - (ms.map (part b w ms)).sum

/-- A member's part of `b` and its unit of the remainder. -/
def apportion (b : Nat) (w : Member → Nat) (eligible : Member → Bool) (ms : List Member) (m : Member) : Nat :=
  part b w ms m + unitOf eligible (remainder b w ms) ms m

theorem sum_part_le (b : Nat) (w : Member → Nat) {ms : List Member} (pos : 0 < (ms.map w).sum) :
    (ms.map (part b w ms)).sum ≤ b := by
  refine Nat.le_of_mul_le_mul_right ?_ pos
  calc (ms.map (part b w ms)).sum * (ms.map w).sum
      = (ms.map fun m => part b w ms m * (ms.map w).sum).sum := (List.sum_map_mul_right ..).symm
    _ ≤ (ms.map fun m => b * w m).sum := List.sum_le_sum fun m _ => Nat.div_mul_le_self ..
    _ = b * (ms.map w).sum := List.sum_map_mul_left ..

/-- Where every member whose part was rounded is eligible, the remainder is at most one unit per eligible member. -/
theorem remainder_le_eligible (b : Nat) (w : Member → Nat) (eligible : Member → Bool) {ms : List Member}
    (pos : 0 < (ms.map w).sum) (rounded : ∀ m ∈ ms, ¬(ms.map w).sum ∣ b * w m → eligible m = true) :
    remainder b w ms ≤ (ms.filter eligible).length := by
  have one_each : ∀ m ∈ ms, b * w m ≤ (part b w ms m + if eligible m = true then 1 else 0) * (ms.map w).sum := by
    intro m hm
    by_cases exact_part : (ms.map w).sum ∣ b * w m
    · calc b * w m = part b w ms m * (ms.map w).sum := (Nat.div_mul_cancel exact_part).symm
        _ ≤ _ := Nat.mul_le_mul_right _ (Nat.le_add_right ..)
    · rw [if_pos (rounded m hm exact_part)]
      exact (Nat.lt_div_mul_add pos).le.trans_eq (by rw [part, Nat.add_mul, Nat.one_mul])
  have total : b * (ms.map w).sum ≤ ((ms.map (part b w ms)).sum + (ms.filter eligible).length) * (ms.map w).sum := by
    calc b * (ms.map w).sum = (ms.map fun m => b * w m).sum := (List.sum_map_mul_left ..).symm
      _ ≤ (ms.map fun m => (part b w ms m + if eligible m = true then 1 else 0) * (ms.map w).sum).sum :=
        List.sum_le_sum one_each
      _ = _ := by rw [List.sum_map_mul_right, List.sum_map_add, length_filter_eq_sum]
  have := Nat.le_of_mul_le_mul_right total pos
  unfold remainder
  omega

/-- Parts and units together give the whole total. -/
theorem sum_apportion (b : Nat) (w : Member → Nat) (eligible : Member → Bool) {ms : List Member} (asc : Ascending ms)
    (pos : 0 < (ms.map w).sum) (rounded : ∀ m ∈ ms, ¬(ms.map w).sum ∣ b * w m → eligible m = true) :
    (ms.map (apportion b w eligible ms)).sum = b := by
  have parts := sum_part_le b w pos
  have units := remainder_le_eligible b w eligible pos rounded
  have sum := sum_add_unitOf asc (remainder b w ms) eligible (part b w ms)
  rw [Nat.min_eq_left units] at sum
  unfold apportion
  rw [sum, remainder]
  omega

/-- A total within the sum of the weights gives no part above its weight. -/
theorem part_le {b : Nat} {w : Member → Nat} {ms : List Member} (le : b ≤ (ms.map w).sum) (m : Member) :
    part b w ms m ≤ w m :=
  Nat.div_le_of_le_mul (Nat.mul_le_mul_right _ le)

/-- A total within the sum of the weights leaves every rounded part below its weight. -/
theorem part_lt_of_rounded {b : Nat} {w : Member → Nat} {ms : List Member} (le : b ≤ (ms.map w).sum) {m : Member}
    (rounded : ¬(ms.map w).sum ∣ b * w m) : part b w ms m < w m := by
  refine lt_of_le_of_ne (part_le le m) fun full => rounded ?_
  have back : w m * (ms.map w).sum ≤ b * w m := by
    conv_lhs => rw [← full]
    exact Nat.div_mul_le_self ..
  have eq : b * w m = (ms.map w).sum * w m :=
    Nat.le_antisymm (Nat.mul_le_mul_right _ le) (by rwa [Nat.mul_comm] at back)
  exact eq ▸ Nat.dvd_mul_right ..

/-- Where only members with a part below their weight are eligible, nobody gets more than its weight. -/
theorem apportion_le {b : Nat} {w : Member → Nat} {eligible : Member → Bool} {ms : List Member}
    (le : b ≤ (ms.map w).sum) {m : Member} (below : eligible m = true → part b w ms m < w m) :
    apportion b w eligible ms m ≤ w m := by
  have := part_le le m
  unfold apportion unitOf
  split
  next h => exact below h.1
  next => omega

/-! ### Layer 1 (R11, R12) -/

/-- The whole steps that a budget covers (R12). -/
def stepsCovered (budget : Nat) (m : Member) : Nat :=
  if stepValue m.capacity m.n = 0 then 0 else min m.n (budget / stepValue m.capacity m.n)

/-- What layer 1 has left of `b` when it comes to a member. -/
def budgetAt (b : Nat) (ms : List Member) (m : Member) : Nat :=
  b - ((layer1 b (membersBelow ms m)).map (·.p)).sum

/-- The steps layer 1 plans for a member. -/
def plannedSteps (b : Nat) (ms : List Member) (m : Member) : Nat := stepsCovered (budgetAt b ms m) m

/-- The share layer 1 plans for a member: whole steps. -/
def steppedShare (b : Nat) (ms : List Member) (m : Member) : Nat := plannedSteps b ms m * stepValue m.capacity m.n

@[simp] theorem layer1_nil (b : Nat) : layer1 b [] = [] := rfl

theorem layer1_cons (b : Nat) (m : Member) (rest : List Member) :
    layer1 b (m :: rest)
      = { id := m.id, k := stepsCovered b m, p := stepsCovered b m * stepValue m.capacity m.n }
        :: layer1 (b - stepsCovered b m * stepValue m.capacity m.n) rest := rfl

theorem layer1_getElem? (b : Nat) (ms : List Member) (k : Nat) :
    (layer1 b ms)[k]? = ms[k]?.map fun m =>
      let steps := stepsCovered (b - ((layer1 b (ms.take k)).map (·.p)).sum) m
      { id := m.id, k := steps, p := steps * stepValue m.capacity m.n } := by
  induction ms generalizing b k with
  | nil => rfl
  | cons x rest ih =>
    cases k with
    | zero => simp [layer1_cons]
    | succ k => simp [layer1_cons, ih, Nat.sub_sub]

theorem layer1_eq_map (b : Nat) {ms : List Member} (asc : Ascending ms) :
    layer1 b ms = ms.map fun m => { id := m.id, k := plannedSteps b ms m, p := steppedShare b ms m } := by
  refine List.ext_getElem? fun k => ?_
  rw [layer1_getElem?, List.getElem?_map]
  refine Option.map_congr fun m hm => ?_
  simp only [steppedShare, plannedSteps, budgetAt, membersBelow_of_getElem? asc hm]

theorem budgetAt_eq (b : Nat) {ms : List Member} (asc : Ascending ms) (m : Member) :
    budgetAt b ms m = b - ((membersBelow ms m).map (steppedShare b ms)).sum := by
  have shares : (layer1 b (membersBelow ms m)).map (·.p) = (membersBelow ms m).map (steppedShare b ms) := by
    rw [layer1_eq_map b (asc.membersBelow m), List.map_map]
    refine List.map_congr_left fun x hx => ?_
    simp only [Function.comp, steppedShare, plannedSteps, budgetAt, membersBelow_membersBelow hx]
  rw [budgetAt, shares]

theorem plannedSteps_le (b : Nat) (ms : List Member) (m : Member) : plannedSteps b ms m ≤ m.n := by
  unfold plannedSteps stepsCovered
  split
  · exact Nat.zero_le _
  · exact Nat.min_le_left ..

theorem steppedShare_le (b : Nat) (ms : List Member) (m : Member) : steppedShare b ms m ≤ m.capacity :=
  calc steppedShare b ms m ≤ m.n * (m.capacity / m.n) := Nat.mul_le_mul_right _ (plannedSteps_le b ms m)
    _ ≤ m.capacity := Nat.mul_div_le ..

theorem stepsCovered_mul_le (budget : Nat) (m : Member) :
    stepsCovered budget m * stepValue m.capacity m.n ≤ budget := by
  unfold stepsCovered
  split
  · simp
  · exact (Nat.mul_le_mul_right _ (Nat.min_le_right ..)).trans (Nat.div_mul_le_self ..)

/-- Layer 1 never overdraws its budget (R30). -/
theorem sum_layer1_le (b : Nat) (ms : List Member) : ((layer1 b ms).map (·.p)).sum ≤ b := by
  induction ms generalizing b with
  | nil => exact Nat.zero_le _
  | cons m rest ih =>
    have first := stepsCovered_mul_le b m
    have others := ih (b - stepsCovered b m * stepValue m.capacity m.n)
    simp only [layer1_cons, List.map_cons, List.sum_cons]
    omega

/-! ### Layer 2 (R15, R16) -/

/-- Which members layer 2 may give a unit of its remainder: those with a part below their capacity (R16). -/
def belowCapacity (b2 : Nat) (ms : List Member) (m : Member) : Bool := part b2 (·.capacity) ms m < m.capacity

/-- The share layer 2 plans for a member. -/
def proportionalShare (b2 : Nat) (ms : List Member) (m : Member) : Nat :=
  if (ms.map (·.capacity)).sum = 0 then 0 else apportion b2 (·.capacity) (belowCapacity b2 ms) ms m

theorem layer2_of_sum_ne_zero (b2 : Nat) {ms : List Member} (ne : (ms.map (·.capacity)).sum ≠ 0) :
    layer2 b2 ms
      = (ms.zip (handOut (remainder b2 (·.capacity) ms)
          (ms.map fun m => (belowCapacity b2 ms m, part b2 (·.capacity) ms m)))).map
        fun x => { id := x.1.id, p := x.2 } :=
  if_neg ne

theorem layer2_eq_map (b2 : Nat) {ms : List Member} (asc : Ascending ms) :
    layer2 b2 ms = ms.map fun m => { id := m.id, p := proportionalShare b2 ms m } := by
  unfold proportionalShare
  by_cases no_capacity : (ms.map (·.capacity)).sum = 0
  · simp only [if_pos no_capacity]
    exact if_pos no_capacity
  · have handed := zip_handOut_map asc id (remainder b2 (·.capacity) ms) (belowCapacity b2 ms) (part b2 (·.capacity) ms)
    rw [List.map_id] at handed
    rw [layer2_of_sum_ne_zero b2 no_capacity, handed, List.map_map]
    simp only [if_neg no_capacity]
    rfl

theorem proportionalShare_of_no_capacity (b2 : Nat) {ms : List Member} (no_capacity : (ms.map (·.capacity)).sum = 0)
    (m : Member) : proportionalShare b2 ms m = 0 := if_pos no_capacity

theorem proportionalShare_of_capacity (b2 : Nat) {ms : List Member} (pos : 0 < (ms.map (·.capacity)).sum) (m : Member) :
    proportionalShare b2 ms m = apportion b2 (·.capacity) (belowCapacity b2 ms) ms m := if_neg pos.ne'

theorem sum_proportionalShare_of_no_capacity (b2 : Nat) {ms : List Member} (no_capacity : (ms.map (·.capacity)).sum = 0) :
    (ms.map (proportionalShare b2 ms)).sum = 0 :=
  List.sum_eq_zero (List.forall_mem_map.mpr fun m _ => proportionalShare_of_no_capacity b2 no_capacity m)

theorem sum_proportionalShare {b2 : Nat} {ms : List Member} (asc : Ascending ms) (le : b2 ≤ (ms.map (·.capacity)).sum)
    (pos : 0 < (ms.map (·.capacity)).sum) : (ms.map (proportionalShare b2 ms)).sum = b2 := by
  rw [funext (proportionalShare_of_capacity b2 pos)]
  exact sum_apportion _ _ _ asc pos fun m _ rounded => decide_eq_true (part_lt_of_rounded le rounded)

theorem proportionalShare_le {b2 : Nat} {ms : List Member} (le : b2 ≤ (ms.map (·.capacity)).sum) (m : Member) :
    proportionalShare b2 ms m ≤ m.capacity := by
  unfold proportionalShare
  split
  · exact Nat.zero_le _
  · exact apportion_le le of_decide_eq_true

/-! ### Layer 3 (R20 to R27) -/

/-- A member's place in layer 3 with a force of its own. -/
def placeWith (room p : Member → Nat) (m : Member) : Place := { id := m.id, weight := m.weight, room := room m, p := p m }

/-- The places of layer 3 before its first pass. -/
def places (room : Member → Nat) (ms : List Member) : List Place := ms.map (placeWith room fun _ => 0)

/-- The grant of pass 1: the part by weight share, and one unit of the remainder while it lasts (R21, R22). -/
def grant (r : Nat) (ms : List Member) (m : Member) : Nat :=
  part r (·.weight) ms m + if (membersBelow ms m).length < remainder r (·.weight) ms then 1 else 0

/-- The grant clamped to the headroom (R23). -/
def clamped (r : Nat) (room : Member → Nat) (ms : List Member) (m : Member) : Nat := min (grant r ms m) (room m)

/-- The excess E (R23). -/
def excessOf (r : Nat) (room : Member → Nat) (ms : List Member) : Nat :=
  (ms.map fun m => grant r ms m - clamped r room ms m).sum

/-- The room that the clamped grant leaves a member (R24). -/
def openRoomAt (r : Nat) (room : Member → Nat) (ms : List Member) (m : Member) : Nat := room m - clamped r room ms m

/-- Hsum (R24). -/
def openRoomOf (r : Nat) (room : Member → Nat) (ms : List Member) : Nat := (ms.map (openRoomAt r room ms)).sum

/-- The addition of pass 2 by room (R26). -/
def addition (r : Nat) (room : Member → Nat) (ms : List Member) (m : Member) : Nat :=
  part (excessOf r room ms) (openRoomAt r room ms) ms m

/-- Which members pass 2 may give a unit of its remainder: those still below their headroom (R27). -/
def belowRoom (r : Nat) (room : Member → Nat) (ms : List Member) (m : Member) : Bool :=
  clamped r room ms m + addition r room ms m < room m

/-- The share layer 3 plans for a member (R25 to R27). -/
def serviceShare (r : Nat) (room : Member → Nat) (ms : List Member) (m : Member) : Nat :=
  if openRoomOf r room ms ≤ excessOf r room ms then room m
  else clamped r room ms m + apportion (excessOf r room ms) (openRoomAt r room ms) (belowRoom r room ms) ms m

theorem grant_eq_apportion (r : Nat) (ms : List Member) : grant r ms = apportion r (·.weight) (fun _ => true) ms := by
  funext m
  simp [grant, apportion, unitOf]

theorem sum_weight_pos {ms : List Member} (ne : ms ≠ []) (weights : ∀ m ∈ ms, 1 ≤ m.weight) :
    0 < (ms.map (·.weight)).sum := by
  cases ms with
  | nil => exact absurd rfl ne
  | cons m rest =>
    have := weights m List.mem_cons_self
    rw [List.map_cons, List.sum_cons]
    omega

/-- Pass 1 hands out the whole residual. -/
theorem sum_grant (r : Nat) {ms : List Member} (asc : Ascending ms) (ne : ms ≠ []) (weights : ∀ m ∈ ms, 1 ≤ m.weight) :
    (ms.map (grant r ms)).sum = r := by
  rw [grant_eq_apportion]
  exact sum_apportion r _ _ asc (sum_weight_pos ne weights) fun _ _ _ => rfl

theorem sum_clamped_add_excessOf (r : Nat) (room : Member → Nat) (ms : List Member) :
    (ms.map (clamped r room ms)).sum + excessOf r room ms = (ms.map (grant r ms)).sum := by
  unfold excessOf
  rw [← List.sum_map_add]
  exact congrArg List.sum (List.map_congr_left fun m _ => Nat.add_sub_of_le (Nat.min_le_left ..))

theorem clamped_add_openRoomAt (r : Nat) (room : Member → Nat) (ms : List Member) (m : Member) :
    clamped r room ms m + openRoomAt r room ms m = room m :=
  Nat.add_sub_of_le (Nat.min_le_right ..)

theorem sum_clamped_add_openRoomOf (r : Nat) (room : Member → Nat) (ms : List Member) :
    (ms.map (clamped r room ms)).sum + openRoomOf r room ms = (ms.map room).sum := by
  unfold openRoomOf
  rw [← List.sum_map_add]
  exact congrArg List.sum (List.map_congr_left fun m _ => clamped_add_openRoomAt r room ms m)

/-- Still below the headroom after the addition: the addition is below the open room. -/
theorem belowRoom_iff (r : Nat) (room : Member → Nat) (ms : List Member) (m : Member) :
    belowRoom r room ms m = true ↔ addition r room ms m < openRoomAt r room ms m := by
  have := clamped_add_openRoomAt r room ms m
  unfold belowRoom
  rw [decide_eq_true_iff]
  omega

theorem serviceShare_le (r : Nat) (room : Member → Nat) (ms : List Member) (m : Member) :
    serviceShare r room ms m ≤ room m := by
  have placed := clamped_add_openRoomAt r room ms m
  unfold serviceShare
  split
  next => exact le_rfl
  next less =>
    have := apportion_le (le_of_not_ge less) (belowRoom_iff r room ms m).mp
    omega

/-- Pass 2 places the excess as far as the room goes: the shares and what the excess exceeds the room by are the grants. -/
theorem sum_serviceShare (r : Nat) (room : Member → Nat) {ms : List Member} (asc : Ascending ms) :
    (ms.map (serviceShare r room ms)).sum + (excessOf r room ms - openRoomOf r room ms) = (ms.map (grant r ms)).sum := by
  have byExcess := sum_clamped_add_excessOf r room ms
  have byRoom := sum_clamped_add_openRoomOf r room ms
  unfold serviceShare
  split
  next covers =>
    change (ms.map room).sum + _ = _
    omega
  next less =>
    have pos : 0 < openRoomOf r room ms := by omega
    have spread := sum_apportion (excessOf r room ms) (openRoomAt r room ms) (belowRoom r room ms) asc pos
      fun m _ rounded => (belowRoom_iff r room ms m).mpr (part_lt_of_rounded (le_of_not_ge less) rounded)
    rw [List.sum_map_add, spread]
    omega

theorem grants_places (r : Nat) (room : Member → Nat) {ms : List Member} (asc : Ascending ms) :
    grants r (places room ms) = ms.map (placeWith room (grant r ms)) := by
  have handed := zip_handOut_map asc (placeWith room fun _ => 0) (remainder r (·.weight) ms) (fun _ => true)
    (part r (·.weight) ms)
  unfold grants places
  simp only [List.map_map, Function.comp_def]
  refine (congrArg (List.map fun y : Place × Nat => { y.1 with p := y.2 }) handed).trans ?_
  rw [grant_eq_apportion, List.map_map]
  rfl

theorem excess_grants (r : Nat) (room : Member → Nat) {ms : List Member} (asc : Ascending ms) :
    excess (grants r (places room ms)) = excessOf r room ms := by
  rw [grants_places r room asc, excess, List.map_map]
  rfl

theorem map_clampPlace_grants (r : Nat) (room : Member → Nat) {ms : List Member} (asc : Ascending ms) :
    (grants r (places room ms)).map clampPlace = ms.map (placeWith room (clamped r room ms)) := by
  rw [grants_places r room asc, List.map_map]
  rfl

theorem openRoom_clamped (r : Nat) (room : Member → Nat) (ms : List Member) :
    openRoom (ms.map (placeWith room (clamped r room ms))) = openRoomOf r room ms := by
  rw [openRoom, List.map_map]
  rfl

/-- A member still below its headroom after the addition was below it before: R27 asks for both. -/
theorem lt_and_belowRoom (r : Nat) (room : Member → Nat) (ms : List Member) :
    (fun m => decide (clamped r room ms m < room m) && belowRoom r room ms m) = belowRoom r room ms := by
  funext m
  cases h : belowRoom r room ms m with
  | false => exact Bool.and_false _
  | true =>
    have after : clamped r room ms m + addition r room ms m < room m := of_decide_eq_true h
    simpa using (Nat.le_add_right ..).trans_lt after

theorem spreadExcess_clamped (r : Nat) (room : Member → Nat) {ms : List Member} (asc : Ascending ms) :
    spreadExcess (excessOf r room ms) (ms.map (placeWith room (clamped r room ms)))
      = ms.map (placeWith room fun m =>
          clamped r room ms m + apportion (excessOf r room ms) (openRoomAt r room ms) (belowRoom r room ms) ms m) := by
  have handed := zip_handOut_map asc (placeWith room (clamped r room ms))
    (remainder (excessOf r room ms) (openRoomAt r room ms) ms)
    (fun m => decide (clamped r room ms m < room m) && belowRoom r room ms m)
    (fun m => clamped r room ms m + addition r room ms m)
  unfold spreadExcess
  simp only [openRoom_clamped, List.map_map, Function.comp_def]
  refine (congrArg (List.map fun y : Place × Nat => { y.1 with p := y.2 }) handed).trans ?_
  rw [lt_and_belowRoom, List.map_map]
  simp only [Nat.add_assoc]
  rfl

theorem map_fillRoom_clamped (r : Nat) (room : Member → Nat) (ms : List Member) :
    (ms.map (placeWith room (clamped r room ms))).map fillRoom = ms.map (placeWith room room) := by
  rw [List.map_map]
  refine List.map_congr_left fun m _ => ?_
  have le : clamped r room ms m ≤ room m := Nat.min_le_right ..
  by_cases below : clamped r room ms m < room m
  · exact if_pos below
  · refine (if_neg below).trans ?_
    simp only [placeWith, Nat.le_antisymm le (Nat.le_of_not_lt below)]

theorem layer3_places (r : Nat) (room : Member → Nat) {ms : List Member} (asc : Ascending ms) (ne : ms ≠ []) :
    layer3 r (places room ms)
      = (ms.map (placeWith room (serviceShare r room ms)), excessOf r room ms - openRoomOf r room ms) := by
  have some_places : places room ms ≠ [] := fun h => ne (List.map_eq_nil_iff.mp h)
  unfold layer3 serviceShare
  simp only [if_neg some_places, excess_grants r room asc, map_clampPlace_grants r room asc, openRoom_clamped]
  split
  next => rw [map_fillRoom_clamped]
  next less => rw [spreadExcess_clamped r room asc, Nat.sub_eq_zero_of_le (le_of_not_ge less)]

theorem serviceShare_of_covered {r : Nat} {room : Member → Nat} {ms : List Member}
    (covered : openRoomOf r room ms ≤ excessOf r room ms) (m : Member) : serviceShare r room ms m = room m :=
  if_pos covered

theorem serviceShare_of_less {r : Nat} {room : Member → Nat} {ms : List Member}
    (less : excessOf r room ms < openRoomOf r room ms) (m : Member) :
    serviceShare r room ms m
      = clamped r room ms m + apportion (excessOf r room ms) (openRoomAt r room ms) (belowRoom r room ms) ms m :=
  if_neg (Nat.not_le_of_lt less)

theorem layer3_fst (r : Nat) (room : Member → Nat) {ms : List Member} (asc : Ascending ms) :
    (layer3 r (places room ms)).1 = ms.map (placeWith room (serviceShare r room ms)) := by
  by_cases ne : ms = []
  · subst ne
    rfl
  · rw [layer3_places r room asc ne]

/-- The service shares and the shortfall are the residual (R28). -/
theorem sum_layer3 (r : Nat) (room : Member → Nat) {ms : List Member} (asc : Ascending ms)
    (weights : ∀ m ∈ ms, 1 ≤ m.weight) :
    ((layer3 r (places room ms)).1.map (·.p)).sum + (layer3 r (places room ms)).2 = r := by
  by_cases ne : ms = []
  · subst ne
    exact Nat.zero_add r
  · rw [layer3_places r room asc ne, List.map_map]
    exact (sum_serviceShare r room asc).trans (sum_grant r asc ne weights)

/-! ### The plan of the plan set -/

/-- The member a plan's list holds under an identity. -/
theorem find?_map_ofRole {ms : List Member} (asc : Ascending ms) {m : Member} (hm : m ∈ ms) (role : Role) {α : Type}
    (key : α → Ident) (entry : Member → α) (keyed : ∀ x, key (entry x) = x.id) :
    ((ofRole role ms).map entry).find? (fun y => key y == m.id) = if m.role = role then some (entry m) else none := by
  have only : ∀ x ∈ ofRole role ms, x.id = m.id → x = m := fun x hx same =>
    asc.eq_of_id_eq (mem_ofRole.mp hx).1 hm same
  split
  next is_role =>
    rw [List.find?_map, Option.map_eq_some_iff]
    cases found : (ofRole role ms).find? ((fun y => key y == m.id) ∘ entry) with
    | none =>
      have absent := List.find?_eq_none.mp found m (mem_ofRole.mpr ⟨hm, is_role⟩)
      simp [keyed] at absent
    | some x =>
      have same : x.id = m.id := by simpa [keyed] using List.find?_some found
      exact ⟨x, rfl, congrArg entry (only x (List.mem_of_find?_eq_some found) same)⟩
  next other_role =>
    simp only [List.find?_eq_none, List.forall_mem_map, keyed, beq_iff_eq]
    exact fun x hx same => other_role (only x hx same ▸ (mem_ofRole.mp hx).2)

/-- The budget of layer 1 in the plan of a state (R12). -/
def budgetOf (s : State) : Nat := min s.du.d (computePlan s).limit

/-- B2 in the plan of a state (R14). -/
def b2Of (s : State) : Nat :=
  min (budgetOf s - (computePlan s).t1) ((ofRole .retarder (planSet s)).map (·.capacity)).sum

/-- The residual R in the plan of a state (R18). -/
def residualOf (s : State) : Nat := s.du.d - (computePlan s).t1 - (computePlan s).t2

/-- The headroom of a member in the plan of a state (R19). -/
def roomOf (s : State) (m : Member) : Nat :=
  headroom (driveAxle (planSet s)) (computePlan s).t1 (computePlan s).t2 m

theorem computePlan_stepped (s : State) :
    (computePlan s).stepped = layer1 (budgetOf s) (ofRole .exhaust (planSet s)) := rfl

theorem computePlan_proportional (s : State) :
    (computePlan s).proportional = layer2 (b2Of s) (ofRole .retarder (planSet s)) := rfl

theorem computePlan_service (s : State) :
    (computePlan s).service = (layer3 (residualOf s) (places (roomOf s) (ofRole .axle (planSet s)))).1 := rfl

theorem computePlan_s (s : State) :
    (computePlan s).s = (layer3 (residualOf s) (places (roomOf s) (ofRole .axle (planSet s)))).2 := rfl

theorem find?_stepped {s : State} {m : Member} (hm : m ∈ planSet s) :
    (computePlan s).stepped.find? (·.id == m.id)
      = if m.role = .exhaust then
          some { id := m.id, k := plannedSteps (budgetOf s) (ofRole .exhaust (planSet s)) m
                 p := steppedShare (budgetOf s) (ofRole .exhaust (planSet s)) m }
        else none := by
  have asc := planSet_ascending s
  rw [computePlan_stepped, layer1_eq_map _ (asc.ofRole _)]
  exact find?_map_ofRole asc hm _ StepShare.id _ fun _ => rfl

theorem find?_proportional {s : State} {m : Member} (hm : m ∈ planSet s) :
    (computePlan s).proportional.find? (·.id == m.id)
      = if m.role = .retarder then
          some { id := m.id, p := proportionalShare (b2Of s) (ofRole .retarder (planSet s)) m }
        else none := by
  have asc := planSet_ascending s
  rw [computePlan_proportional, layer2_eq_map _ (asc.ofRole _)]
  exact find?_map_ofRole asc hm _ Share.id _ fun _ => rfl

theorem find?_service {s : State} {m : Member} (hm : m ∈ planSet s) :
    (computePlan s).service.find? (·.id == m.id)
      = if m.role = .axle then
          some (placeWith (roomOf s) (serviceShare (residualOf s) (roomOf s) (ofRole .axle (planSet s))) m)
        else none := by
  have asc := planSet_ascending s
  rw [computePlan_service, layer3_fst _ _ (asc.ofRole _)]
  exact find?_map_ofRole asc hm _ Place.id _ fun _ => rfl

theorem planStep_exhaust {s : State} {m : Member} (hm : m ∈ ofRole .exhaust (planSet s)) :
    planStep (computePlan s) m.id = plannedSteps (budgetOf s) (ofRole .exhaust (planSet s)) m := by
  obtain ⟨mem, role⟩ := mem_ofRole.mp hm
  simp [planStep, find?_stepped mem, role]

theorem planShare_exhaust {s : State} {m : Member} (hm : m ∈ ofRole .exhaust (planSet s)) :
    planShare (computePlan s) m.id = steppedShare (budgetOf s) (ofRole .exhaust (planSet s)) m := by
  obtain ⟨mem, role⟩ := mem_ofRole.mp hm
  simp [planShare, find?_stepped mem, role]

theorem planShare_retarder {s : State} {m : Member} (hm : m ∈ ofRole .retarder (planSet s)) :
    planShare (computePlan s) m.id = proportionalShare (b2Of s) (ofRole .retarder (planSet s)) m := by
  obtain ⟨mem, role⟩ := mem_ofRole.mp hm
  simp [planShare, find?_stepped mem, find?_proportional mem, role]

theorem planShare_axle {s : State} {m : Member} (hm : m ∈ ofRole .axle (planSet s)) :
    planShare (computePlan s) m.id
      = serviceShare (residualOf s) (roomOf s) (ofRole .axle (planSet s)) m := by
  obtain ⟨mem, role⟩ := mem_ofRole.mp hm
  simp [planShare, find?_stepped mem, find?_proportional mem, find?_service mem, role, placeWith]

/-- With an AXLE member the shortfall is what the excess exceeds the open room by (R25, R28). -/
theorem computePlan_s_of_axles {s : State} (ne : ofRole .axle (planSet s) ≠ []) :
    (computePlan s).s = excessOf (residualOf s) (roomOf s) (ofRole .axle (planSet s))
      - openRoomOf (residualOf s) (roomOf s) (ofRole .axle (planSet s)) := by
  rw [computePlan_s, layer3_places _ _ ((planSet_ascending s).ofRole _) ne]

theorem axle_weights (s : State) : ∀ m ∈ ofRole .axle (planSet s), 1 ≤ m.weight :=
  fun _ hm => weight_pos_of_mem_planSet (mem_ofRole.mp hm).1

theorem b2Of_le_capacity (s : State) : b2Of s ≤ ((ofRole .retarder (planSet s)).map (·.capacity)).sum :=
  Nat.min_le_right ..

theorem headroom_le_capacity (d : Option Member) (t1 t2 : Nat) (m : Member) : headroom d t1 t2 m ≤ m.capacity := by
  unfold headroom
  split
  · exact Nat.min_le_left ..
  · exact Nat.min_le_left ..

theorem headroom_drive (d : Member) (t1 t2 : Nat) : headroom (some d) t1 t2 d ≤ d.limit - t1 - t2 :=
  (if_pos rfl : headroom (some d) t1 t2 d = _).trans_le (Nat.min_le_right ..)

/-- No share of a plan is above the capacity counted for its member (R29). -/
theorem planShare_le_capacity {s : State} {m : Member} (hm : m ∈ planSet s) :
    planShare (computePlan s) m.id ≤ m.capacity := by
  cases role : m.role with
  | exhaust => exact (planShare_exhaust (mem_ofRole.mpr ⟨hm, role⟩)).trans_le (steppedShare_le ..)
  | retarder =>
    exact (planShare_retarder (mem_ofRole.mpr ⟨hm, role⟩)).trans_le (proportionalShare_le (b2Of_le_capacity s) m)
  | axle =>
    calc planShare (computePlan s) m.id = serviceShare .. := planShare_axle (mem_ofRole.mpr ⟨hm, role⟩)
      _ ≤ roomOf s m := serviceShare_le ..
      _ ≤ m.capacity := headroom_le_capacity ..

/-- The drive axle's share stays within the drive room (R29). -/
theorem planShare_drive_le {s : State} {d : Member} (hd : driveAxle (planSet s) = some d) :
    planShare (computePlan s) d.id ≤ d.limit - (computePlan s).t1 - (computePlan s).t2 := by
  calc planShare (computePlan s) d.id = serviceShare .. := planShare_axle (List.mem_of_find?_eq_some hd)
    _ ≤ roomOf s d := serviceShare_le ..
    _ ≤ _ := by rw [roomOf, hd]; exact headroom_drive ..

/-- Settles O11: each share by the layer of its member's role. -/
theorem planBounds : Obligations.PlanBounds := by
  intro s
  refine ⟨fun m hm => planShare_le_capacity hm, fun d hd => planShare_drive_le hd, fun m hm role => ?_⟩
  have exhaust := mem_ofRole.mpr ⟨hm, role⟩
  rw [planStep_exhaust exhaust, planShare_exhaust exhaust]
  exact ⟨plannedSteps_le .., rfl⟩

/-- Settles O12: layer 1 never overdraws its budget, and layer 2 apportions B2 exactly where some capacity stands. -/
theorem planLayerSums : Obligations.PlanLayerSums := by
  intro s
  have asc := (planSet_ascending s).ofRole .retarder
  have shares : (computePlan s).proportional.map (·.p)
      = (ofRole .retarder (planSet s)).map (proportionalShare (b2Of s) (ofRole .retarder (planSet s))) := by
    rw [computePlan_proportional, layer2_eq_map _ asc, List.map_map]
    rfl
  have exact_sum : 0 < ((ofRole .retarder (planSet s)).map (·.capacity)).sum →
      ((computePlan s).proportional.map (·.p)).sum = b2Of s := by
    rw [shares]
    exact sum_proportionalShare asc (b2Of_le_capacity s)
  refine ⟨sum_layer1_le .., ?_, exact_sum⟩
  rcases Nat.eq_zero_or_pos ((ofRole .retarder (planSet s)).map (·.capacity)).sum with no_capacity | pos
  · rw [shares, sum_proportionalShare_of_no_capacity _ no_capacity]
    exact Nat.zero_le _
  · exact (exact_sum pos).le

/-- In ACTIVE an evaluation records the plan's shortfall and hands it to the shortfall state (R28, R31, R183). -/
theorem exec_peEvaluationExpiry_active {s : State} (active : s.stc.state = .active) :
    ∃ t, exec .peEvaluationExpiry s = .next t
      ∧ t.pe = peNext s.cfg s.stc.id (computePlan s) s.pe := by
  refine ⟨s.planNow.drivePins, ?_, ?_⟩
  · exact congrArg answer (if_pos active)
  · simp [State.planNow]

/-- The open room after the clamp, written over the grants themselves. -/
theorem sum_room_sub_grants (r : Nat) (room : Member → Nat) {ms : List Member} (asc : Ascending ms) :
    ((grants r (places room ms)).map fun x => x.room - min x.p x.room).sum = openRoomOf r room ms := by
  rw [grants_places r room asc, List.map_map]
  rfl

/-- The service shares and the shortfall of a state's plan are its residual (R28). -/
theorem sum_service_add_s (s : State) : ((computePlan s).service.map (·.p)).sum + (computePlan s).s = residualOf s :=
  sum_layer3 _ _ ((planSet_ascending s).ofRole _) (axle_weights s)

/-- Settles O13: pass 2 leaves as S what the excess exceeds the open room by, and shares and S sum to the residual. -/
theorem serviceSharesAndShortfall : Obligations.ServiceSharesAndShortfall := by
  intro s p axles r granted e hsum
  have asc : Ascending axles := (planSet_ascending s).ofRole .axle
  have total : (p.service.map (·.p)).sum + p.s = r := sum_service_add_s s
  have e_eq : e = excessOf r (roomOf s) axles := excess_grants r (roomOf s) asc
  have hsum_eq : hsum = openRoomOf r (roomOf s) axles := sum_room_sub_grants r (roomOf s) asc
  have s_eq : axles ≠ [] → p.s = e - hsum := by
    rw [e_eq, hsum_eq]
    exact computePlan_s_of_axles
  refine ⟨total, fun no_axle => ?_, fun ne _ => s_eq ne, fun ne less => ?_, fun bound => ?_, fun active => ?_⟩
  · have nothing : layer3 r (places (roomOf s) axles) = ([], r) := by rw [no_axle]; rfl
    exact ⟨congrArg Prod.fst nothing, congrArg Prod.snd nothing⟩
  · rw [s_eq ne, Nat.sub_eq_zero_of_le less.le]
  · have residual : r ≤ s.du.d := (Nat.sub_le ..).trans (Nat.sub_le ..)
    omega
  · obtain ⟨t, answers, pe⟩ := exec_peEvaluationExpiry_active active
    exact ⟨t, answers, by rw [pe]; rfl, by rw [pe]; rfl⟩

/-! ### The shares, layer by layer -/

/-- Layer 1: whole steps, as far as what the lower identities leave of the budget goes (R11, R12). -/
theorem exhaust_shares (s : State) {m : Member} (hm : m ∈ ofRole .exhaust (planSet s)) :
    planStep (computePlan s) m.id
        = stepsCovered (budgetOf s
            - ((membersBelow (ofRole .exhaust (planSet s)) m).map fun x => planShare (computePlan s) x.id).sum) m
      ∧ planShare (computePlan s) m.id = planStep (computePlan s) m.id * (m.capacity / m.n) := by
  have below : ∀ x ∈ membersBelow (ofRole .exhaust (planSet s)) m,
      planShare (computePlan s) x.id = steppedShare (budgetOf s) (ofRole .exhaust (planSet s)) x :=
    fun x hx => planShare_exhaust (List.mem_filter.mp hx).1
  rw [List.map_congr_left below, ← budgetAt_eq _ ((planSet_ascending s).ofRole _), planStep_exhaust hm,
    planShare_exhaust hm]
  exact ⟨rfl, rfl⟩

/-- Layer 2 without capacity (R15). -/
theorem retarder_share_of_no_capacity (s : State) {m : Member} (hm : m ∈ ofRole .retarder (planSet s))
    (no_capacity : ((ofRole .retarder (planSet s)).map (·.capacity)).sum = 0) : planShare (computePlan s) m.id = 0 :=
  (planShare_retarder hm).trans (proportionalShare_of_no_capacity _ no_capacity m)

/-- Layer 2: B2 apportioned by capacity (R15, R16). -/
theorem retarder_share_of_capacity (s : State) {m : Member} (hm : m ∈ ofRole .retarder (planSet s))
    (pos : 0 < ((ofRole .retarder (planSet s)).map (·.capacity)).sum) :
    planShare (computePlan s) m.id
      = apportion (b2Of s) (·.capacity) (belowCapacity (b2Of s) (ofRole .retarder (planSet s)))
          (ofRole .retarder (planSet s)) m :=
  (planShare_retarder hm).trans (proportionalShare_of_capacity _ pos m)

theorem sum_retarder_shares (s : State) (pos : 0 < ((ofRole .retarder (planSet s)).map (·.capacity)).sum) :
    ((ofRole .retarder (planSet s)).map fun m => planShare (computePlan s) m.id).sum = b2Of s := by
  rw [List.map_congr_left fun m hm => planShare_retarder hm]
  exact sum_proportionalShare ((planSet_ascending s).ofRole _) (b2Of_le_capacity s) pos

/-- Layer 3 where the excess is below the open room: nothing falls short, and the shares sum to the residual (R27, R28). -/
theorem sum_axle_shares_of_less (s : State)
    (less : excessOf (residualOf s) (roomOf s) (ofRole .axle (planSet s))
      < openRoomOf (residualOf s) (roomOf s) (ofRole .axle (planSet s)))
    (ne : ofRole .axle (planSet s) ≠ []) :
    ((ofRole .axle (planSet s)).map fun m => planShare (computePlan s) m.id).sum = residualOf s
      ∧ (computePlan s).s = 0 := by
  have asc := (planSet_ascending s).ofRole .axle
  have no_shortfall := Nat.sub_eq_zero_of_le less.le
  have total := sum_serviceShare (residualOf s) (roomOf s) asc
  rw [no_shortfall, sum_grant _ asc ne (axle_weights s)] at total
  rw [List.map_congr_left fun m hm => planShare_axle hm]
  exact ⟨total, (computePlan_s_of_axles ne).trans no_shortfall⟩

/-- Settles O60, layer by layer. -/
theorem layerShares : Obligations.LayerShares := by
  intro s
  have asc := (planSet_ascending s).ofRole .axle
  refine ⟨⟨rfl, rfl, rfl⟩, fun m hm => exhaust_shares s hm,
    ⟨fun m hm => retarder_share_of_no_capacity s hm, fun m hm pos => ⟨?_, retarder_share_of_capacity s hm pos⟩,
      sum_retarder_shares s⟩,
    fun ne => sum_grant (residualOf s) asc ne (axle_weights s),
    fun ne covered => ⟨fun m hm => ?_, computePlan_s_of_axles ne⟩,
    fun ne less => ⟨fun m hm => ?_, sum_axle_shares_of_less s less ne⟩⟩
  · exact planShare_le_capacity (mem_ofRole.mp hm).1
  · exact (planShare_axle hm).trans (serviceShare_of_covered covered m)
  · exact (planShare_axle hm).trans ((serviceShare_of_less less m).trans (Nat.add_assoc ..).symm)

end Sys2Proof.Apportioning
end

section
/-! PROOFS. The peer table (spec/03): when an arriving statement is accepted, what acceptance and discarding do to the last
sequence, and the classes of R57. -/

namespace Sys2Proof.Peers

open Sys2Proof Sys2Proof.Machine

/-! ### The distance of two sequences (R57) -/

/-- (s - r) mod 256 in the natural numbers. -/
theorem toNat_seq_sub (s r : BitVec 8) : (s - r).toNat = (s.toNat + 256 - r.toNat) % 256 := by
  bv_omega

theorem seqNewer_iff (s r : BitVec 8) :
    seqNewer s r = true ↔ 1 ≤ (s.toNat + 256 - r.toNat) % 256 ∧ (s.toNat + 256 - r.toNat) % 256 ≤ 127 := by
  simp only [seqNewer, toNat_seq_sub, Bool.and_eq_true, decide_eq_true_eq]

theorem seqNewer_eq_false_iff (s r : BitVec 8) :
    seqNewer s r = false ↔ (s.toNat + 256 - r.toNat) % 256 = 0 ∨ 128 ≤ (s.toNat + 256 - r.toNat) % 256 := by
  rw [← Bool.not_eq_true, seqNewer_iff]
  omega

/-- A duplicate is the last sequence itself. -/
theorem seq_distance_eq_zero_iff (s r : BitVec 8) : (s.toNat + 256 - r.toNat) % 256 = 0 ↔ s = r := by
  bv_omega

/-! ### Acceptance -/

/-- The sequence lets a STANDING or a LEAVE in: a newer one at a FRESH or LEFT record, any at a STALE or MISMATCH one. -/
def seqPasses (seq : BitVec 8) (r : PeerRecord) : Bool :=
  match r.state with
  | .fresh | .left => seqNewer seq r.seq
  | .stale | .mismatch => true

/-- A record accepts a statement (R56, R60 to R63, R66, R67, R69); `arriveAt_of_accepts` and `arriveAt_of_not_accepts` tie this
to the model. -/
def accepts (stmt : Statement) (seq : BitVec 8) (r : PeerRecord) : Bool :=
  match stmt with
  | .standing f => f.role ≠ 3 && seqPasses seq r
  | .demand _ | .alert _ => acceptsValue seq r
  | .leave => seqPasses seq r

theorem seqPasses_of_fresh_or_left {seq : BitVec 8} {r : PeerRecord} (h : r.state = .fresh ∨ r.state = .left) :
    seqPasses seq r = seqNewer seq r.seq := by
  obtain h | h := h <;> simp only [seqPasses, h]

theorem acceptsValue_of_fresh {seq : BitVec 8} {r : PeerRecord} (h : r.state = .fresh) :
    acceptsValue seq r = seqNewer seq r.seq := by
  simp only [acceptsValue, h]

theorem accepts_standing_iff (f : StandingFields) (seq : BitVec 8) (r : PeerRecord) :
    accepts (.standing f) seq r = true ↔ f.role ≠ 3 ∧ seqPasses seq r = true := by
  simp only [accepts, Bool.and_eq_true, decide_eq_true_eq]

/-- Whatever a FRESH or LEFT record accepts is newer. -/
theorem not_accepts_of_not_newer {stmt : Statement} {seq : BitVec 8} {r : PeerRecord}
    (state : r.state = .fresh ∨ r.state = .left) (old : seqNewer seq r.seq = false) : accepts stmt seq r = false := by
  have stopped : seqPasses seq r = false := (seqPasses_of_fresh_or_left state).trans old
  have refused : acceptsValue seq r = false := by
    obtain fresh | left := state
    · exact (acceptsValue_of_fresh fresh).trans old
    · simp only [acceptsValue, left]
  cases stmt with
  | standing f => simp only [accepts, stopped, Bool.and_false]
  | demand v => exact refused
  | alert a => exact refused
  | leave => exact stopped

theorem accepts_of_fresh {stmt : Statement} {seq : BitVec 8} {r : PeerRecord} (fresh : r.state = .fresh)
    (named : ∀ f, stmt = .standing f → f.role ≠ 3) (newer : seqNewer seq r.seq = true) : accepts stmt seq r = true := by
  have passes : seqPasses seq r = true := (seqPasses_of_fresh_or_left (.inl fresh)).trans newer
  cases stmt with
  | standing f => exact (accepts_standing_iff f seq r).mpr ⟨named f rfl, passes⟩
  | demand v => exact (acceptsValue_of_fresh fresh).trans newer
  | alert a => exact (acceptsValue_of_fresh fresh).trans newer
  | leave => exact passes

theorem accepts_of_left {stmt : Statement} {seq : BitVec 8} {r : PeerRecord} (left : r.state = .left)
    (kind : (∃ f, stmt = .standing f ∧ f.role ≠ 3) ∨ stmt = .leave) (newer : seqNewer seq r.seq = true) :
    accepts stmt seq r = true := by
  have passes : seqPasses seq r = true := (seqPasses_of_fresh_or_left (.inr left)).trans newer
  obtain ⟨f, rfl, named⟩ | rfl := kind
  · exact (accepts_standing_iff f seq r).mpr ⟨named, passes⟩
  · exact passes

/-! ### What a statement does at a record -/

/-- Code 3 alone names no role. -/
theorem roleOfCode_eq_none_iff (code : BitVec 2) : roleOfCode code.toNat = none ↔ code = 3 := by
  revert code
  decide

theorem stored_seq (own : Half) (role : Role) (f : StandingFields) (seq : BitVec 8) (r : PeerRecord) :
    (stored own role f seq r).seq = seq := by
  unfold stored
  split <;> rfl

/-- A STANDING that names a role: stored under its sequence where that passes, discarded otherwise (R60 to R63). -/
theorem standingAtSlot_some_seq (own : Half) (role : Role) (f : StandingFields) {seq : BitVec 8} {r : PeerRecord}
    (h : seqPasses seq r = true) : (standingAtSlot own role f seq (some r)).seq = seq := by
  cases state : r.state with
  | fresh | left =>
    simp only [seqPasses, state] at h
    simp only [standingAtSlot, state, h, if_true, stored_seq, learned]
  | stale | mismatch => simp only [standingAtSlot, state, stored_seq, learned]

theorem standingAtSlot_some_of_not_passes (own : Half) (role : Role) (f : StandingFields) {seq : BitVec 8} {r : PeerRecord}
    (h : seqPasses seq r = false) : standingAtSlot own role f seq (some r) = r := by
  cases state : r.state with
  | fresh | left =>
    simp only [seqPasses, state] at h
    simp [standingAtSlot, state, h]
  | stale | mismatch => simp [seqPasses, state] at h

theorem takeLeaveAt_some (seq : BitVec 8) (r : PeerRecord) :
    takeLeaveAt seq (some r) = some (if seqPasses seq r then leftRecord seq r else r) := by
  cases state : r.state <;> simp [takeLeaveAt, seqPasses, state]

/-- An accepted statement sets the last sequence (R57). -/
theorem arriveAt_of_accepts (own : Half) {stmt : Statement} {seq : BitVec 8} {r : PeerRecord}
    (h : accepts stmt seq r = true) : ∃ r', arriveAt own stmt seq (some r) = some r' ∧ r'.seq = seq := by
  cases stmt with
  | standing f =>
    obtain ⟨named, passes⟩ := (accepts_standing_iff f seq r).mp h
    obtain ⟨role, hrole⟩ := Option.ne_none_iff_exists'.mp (mt (roleOfCode_eq_none_iff f.role).mp named)
    exact ⟨standingAtSlot own role f seq (some r), by simp only [arriveAt, takeStandingAt, hrole],
      standingAtSlot_some_seq own role f passes⟩
  | demand v =>
    have taken : acceptsValue seq r = true := h
    exact ⟨_, by simp only [arriveAt, takeDemandAt, Option.map_some, taken, if_true]; rfl, rfl⟩
  | alert a =>
    have taken : acceptsValue seq r = true := h
    exact ⟨_, by simp only [arriveAt, takeAlertAt, Option.map_some, taken, if_true]; rfl, rfl⟩
  | leave =>
    have passes : seqPasses seq r = true := h
    exact ⟨leftRecord seq r, by simp only [arriveAt, takeLeaveAt_some, passes, if_true], rfl⟩

/-- A discarded statement leaves the record unchanged (R57). -/
theorem arriveAt_of_not_accepts (own : Half) {stmt : Statement} {seq : BitVec 8} {r : PeerRecord}
    (h : accepts stmt seq r = false) : arriveAt own stmt seq (some r) = some r := by
  cases stmt with
  | standing f =>
    cases hrole : roleOfCode f.role.toNat with
    | none => simp only [arriveAt, takeStandingAt, hrole]
    | some role =>
      have named : f.role ≠ 3 := fun code => by simp [(roleOfCode_eq_none_iff f.role).mpr code] at hrole
      have stopped : seqPasses seq r = false :=
        Bool.eq_false_iff.mpr fun passes =>
          Bool.eq_false_iff.mp h ((accepts_standing_iff f seq r).mpr ⟨named, passes⟩)
      simp only [arriveAt, takeStandingAt, hrole, standingAtSlot_some_of_not_passes own role f stopped]
  | demand v =>
    have refused : acceptsValue seq r = false := h
    simp [arriveAt, takeDemandAt, refused]
  | alert a =>
    have refused : acceptsValue seq r = false := h
    simp [arriveAt, takeAlertAt, refused]
  | leave =>
    have stopped : seqPasses seq r = false := h
    simp [arriveAt, takeLeaveAt_some, stopped]

/-- Settles O21, from the two lemmas on accepted and discarded statements. -/
theorem sequenceClasses : Obligations.SequenceClasses := by
  intro own stmt seq r
  refine ⟨seqNewer_iff seq r.seq, seq_distance_eq_zero_iff seq r.seq,
    fun fresh named low high => ?_, fun left kind low high => ?_, fun state old => ?_, ?_⟩
  · exact arriveAt_of_accepts own (accepts_of_fresh fresh named ((seqNewer_iff ..).mpr ⟨low, high⟩))
  · exact arriveAt_of_accepts own (accepts_of_left left kind ((seqNewer_iff ..).mpr ⟨low, high⟩))
  · exact arriveAt_of_not_accepts own (not_accepts_of_not_newer state ((seqNewer_eq_false_iff ..).mpr old))
  · cases decision : accepts stmt seq r with
    | false => exact .inl (arriveAt_of_not_accepts own decision)
    | true => exact .inr (arriveAt_of_accepts own decision)

end Sys2Proof.Peers
end

section
/-! PROOFS. Reading a curve (spec/05): what the segment formula gives, and the fraction read before, between, at and past the
points. -/

namespace Sys2Proof.Curves

open Sys2Proof Sys2Proof.Machine

/-! ### One segment (R103) -/

/-- The rounded amount of a segment never exceeds the whole difference. -/
theorem amount_le {p q : CurvePoint} {x : Nat} (d : Nat) (h : x ≤ q.x) : d * (x - p.x) / (q.x - p.x) ≤ d :=
  Nat.div_le_of_le_mul (by rw [Nat.mul_comm]; exact Nat.mul_le_mul_right d (Nat.sub_le_sub_right h p.x))

theorem segment_of_rising {p q : CurvePoint} (h : p.f ≤ q.f) (x : Nat) :
    Machine.segment p q x = p.f + (q.f - p.f) * (x - p.x) / (q.x - p.x) := by
  obtain lt | flat := Nat.lt_or_eq_of_le h
  · exact if_pos lt
  · simp [Machine.segment, flat]

theorem segment_of_falling {p q : CurvePoint} (h : q.f ≤ p.f) (x : Nat) :
    Machine.segment p q x = p.f - (p.f - q.f) * (x - p.x) / (q.x - p.x) :=
  if_neg (Nat.not_lt.mpr h)

theorem segment_le_of_rising {p q : CurvePoint} {x : Nat} (rising : p.f ≤ q.f) (h : x ≤ q.x) :
    Machine.segment p q x ≤ q.f := by
  have := amount_le (p := p) (q.f - p.f) h
  rw [segment_of_rising rising]
  omega

theorem le_segment_of_falling {p q : CurvePoint} {x : Nat} (falling : q.f ≤ p.f) (h : x ≤ q.x) :
    q.f ≤ Machine.segment p q x := by
  have := amount_le (p := p) (p.f - q.f) h
  rw [segment_of_falling falling]
  omega

theorem segment_le_max {p q : CurvePoint} {x : Nat} (h : x ≤ q.x) : Machine.segment p q x ≤ max p.f q.f := by
  obtain rising | falling := Nat.le_total p.f q.f
  · exact (segment_le_of_rising rising h).trans (Nat.le_max_right ..)
  · rw [segment_of_falling falling]
    exact (Nat.sub_le ..).trans (Nat.le_max_left ..)

@[simp] theorem segment_first_point (p q : CurvePoint) : Machine.segment p q p.x = p.f := by
  simp [Machine.segment]

/-! ### Points of increasing x -/

/-- The x values strictly increase, as the check on a curve demands (R180). -/
def Increasing (ps : List CurvePoint) : Prop := ps.Pairwise fun p q => p.x < q.x

theorem isChain_of_eachNext {r : CurvePoint → CurvePoint → Bool} {ps : List CurvePoint} (h : eachNext r ps = true) :
    ps.IsChain fun p q => r p q = true := by
  induction ps with
  | nil => exact .nil
  | cons p rest ih =>
    cases rest with
    | nil => exact .singleton p
    | cons q rest =>
      obtain ⟨next, later⟩ := Bool.and_eq_true_iff.mp h
      exact .cons_cons next (ih later)

theorem increasing_of_eachNext {ps : List CurvePoint} (h : eachNext (fun p q => p.x < q.x) ps = true) : Increasing ps := by
  have chain : ps.IsChain fun p q => p.x < q.x := (isChain_of_eachNext h).imp fun _ _ => of_decide_eq_true
  exact List.pairwise_map.mp ((List.isChain_map CurvePoint.x).mpr chain).pairwise

/-- What the checks give of a curve (R180). -/
theorem increasing_and_le_of_curveOk {c : Curve} (ok : curveOk c = true) :
    Increasing (curvePoints c) ∧ ∀ p ∈ curvePoints c, p.f ≤ 256 := by
  obtain ⟨next, bounded⟩ := Bool.and_eq_true_iff.mp ok
  exact ⟨increasing_of_eachNext next, by simpa using bounded⟩

theorem Increasing.tail {p : CurvePoint} {ps : List CurvePoint} (inc : Increasing (p :: ps)) : Increasing ps :=
  List.Pairwise.of_cons inc

theorem Increasing.head_lt {p a : CurvePoint} {ps : List CurvePoint} (inc : Increasing (p :: ps)) (ha : a ∈ ps) :
    p.x < a.x :=
  List.rel_of_pairwise_cons inc ha

theorem Increasing.head_le {p a : CurvePoint} {ps : List CurvePoint} (inc : Increasing (p :: ps)) (ha : a ∈ p :: ps) :
    p.x ≤ a.x := by
  obtain rfl | later := List.mem_cons.mp ha
  · exact Nat.le_refl _
  · exact (inc.head_lt later).le

/-! ### Reading from the first point on -/

theorem readFrom_cons_of_lt {p q : CurvePoint} {rest : List CurvePoint} {x : Nat} (h : x < q.x) :
    readFrom p (q :: rest) x = Machine.segment p q x :=
  if_pos h

theorem readFrom_cons_of_le {p q : CurvePoint} {rest : List CurvePoint} {x : Nat} (h : q.x ≤ x) :
    readFrom p (q :: rest) x = readFrom q rest x :=
  if_neg (Nat.not_lt.mpr h)

/-- Between a point and the next, the reading is that of their segment. -/
theorem readFrom_eq_segment {p : CurvePoint} {ps : List CurvePoint} (inc : Increasing (p :: ps)) {i : Nat}
    {a b : CurvePoint} {x : Nat} (ha : (p :: ps)[i]? = some a) (hb : (p :: ps)[i + 1]? = some b) (low : a.x ≤ x)
    (high : x < b.x) : readFrom p ps x = Machine.segment a b x := by
  induction ps generalizing p i with
  | nil => simp at hb
  | cons q rest ih =>
    cases i with
    | zero =>
      obtain rfl : p = a := by simpa using ha
      obtain rfl : q = b := by simpa using hb
      exact readFrom_cons_of_lt high
    | succ i =>
      have ha' : (q :: rest)[i]? = some a := by simpa using ha
      have passed : q.x ≤ x := (inc.tail.head_le (List.mem_of_getElem? ha')).trans low
      exact (readFrom_cons_of_le passed).trans (ih inc.tail ha' (by simpa using hb))

theorem readFrom_at_point {p : CurvePoint} {ps : List CurvePoint} (inc : Increasing (p :: ps)) {a : CurvePoint}
    (ha : a ∈ p :: ps) : readFrom p ps a.x = a.f := by
  induction ps generalizing p with
  | nil =>
    obtain rfl := List.mem_singleton.mp ha
    rfl
  | cons q rest ih =>
    obtain rfl | later := List.mem_cons.mp ha
    · rw [readFrom_cons_of_lt (inc.head_lt List.mem_cons_self), segment_first_point]
    · exact (readFrom_cons_of_le (inc.tail.head_le later)).trans (ih inc.tail later)

theorem readFrom_past_last {p : CurvePoint} {ps : List CurvePoint} (inc : Increasing (p :: ps)) {x : Nat}
    (past : ((p :: ps).getLast (List.cons_ne_nil _ _)).x ≤ x) :
    readFrom p ps x = ((p :: ps).getLast (List.cons_ne_nil _ _)).f := by
  induction ps generalizing p with
  | nil => rfl
  | cons q rest ih =>
    have passed : q.x ≤ x := (inc.tail.head_le (List.getLast_mem ..)).trans past
    exact (readFrom_cons_of_le passed).trans (ih inc.tail past)

/-- No fraction read is above every point's. -/
theorem readFrom_le {bound : Nat} {p : CurvePoint} {ps : List CurvePoint} (le : ∀ a ∈ p :: ps, a.f ≤ bound) (x : Nat) :
    readFrom p ps x ≤ bound := by
  induction ps generalizing p with
  | nil => exact le p List.mem_cons_self
  | cons q rest ih =>
    obtain ⟨first, later⟩ := List.forall_mem_cons.mp le
    obtain before | passed := Nat.lt_or_ge x q.x
    · rw [readFrom_cons_of_lt before]
      exact (segment_le_max before.le).trans (max_le first (later q List.mem_cons_self))
    · rw [readFrom_cons_of_le passed]
      exact ih later

/-! ### Reading a curve (R103) -/

theorem curveRead_of_le {c : Curve} {x : Nat} (h : x ≤ c.p0.x) : curveRead c x = c.p0.f := if_pos h

/-- From x_0 on, where the two lines of the table meet, the reading goes through the segments. -/
theorem curveRead_of_ge {c : Curve} (inc : Increasing (curvePoints c)) {x : Nat} (h : c.p0.x ≤ x) :
    curveRead c x = readFrom c.p0 [c.p1, c.p2, c.p3, c.p4, c.p5] x := by
  obtain rfl | after := Nat.eq_or_lt_of_le h
  · exact (curveRead_of_le h).trans (readFrom_at_point inc List.mem_cons_self).symm
  · exact if_neg (Nat.not_le.mpr after)

theorem curveRead_past_last {c : Curve} (inc : Increasing (curvePoints c)) {x : Nat} (past : c.p5.x ≤ x) :
    curveRead c x = c.p5.f := by
  have from_first : c.p0.x ≤ x := (inc.head_le (List.getLast_mem (List.cons_ne_nil _ _))).trans past
  exact (curveRead_of_ge inc from_first).trans (readFrom_past_last inc past)

theorem curveRead_eq_segment {c : Curve} (inc : Increasing (curvePoints c)) {i : Nat} {p q : CurvePoint} {x : Nat}
    (hp : (curvePoints c)[i]? = some p) (hq : (curvePoints c)[i + 1]? = some q) (low : p.x ≤ x) (high : x < q.x) :
    curveRead c x = Machine.segment p q x := by
  have from_first : c.p0.x ≤ x := (inc.head_le (List.mem_of_getElem? hp)).trans low
  exact (curveRead_of_ge inc from_first).trans (readFrom_eq_segment inc hp hq low high)

theorem curveRead_at_point {c : Curve} (inc : Increasing (curvePoints c)) {p : CurvePoint} (hp : p ∈ curvePoints c) :
    curveRead c p.x = p.f :=
  (curveRead_of_ge inc (inc.head_le hp)).trans (readFrom_at_point inc hp)

theorem curveRead_le {bound : Nat} {c : Curve} (le : ∀ p ∈ curvePoints c, p.f ≤ bound) (x : Nat) :
    curveRead c x ≤ bound := by
  unfold curveRead
  split
  · exact le c.p0 List.mem_cons_self
  · exact readFrom_le le x

/-- Settles O37, line by line of R103's table. -/
theorem curveReading : Obligations.CurveReading := by
  intro c x ok
  obtain ⟨inc, bounded⟩ := increasing_and_le_of_curveOk ok
  refine ⟨curveRead_of_le, curveRead_past_last inc, fun i p q hp hq low high => ?_,
    fun p hp => curveRead_at_point inc hp, curveRead_le bounded x⟩
  rw [curveRead_eq_segment inc hp hq low high]
  exact ⟨fun rising => ⟨segment_of_rising rising x, segment_le_of_rising rising high.le⟩,
    fun falling => ⟨segment_of_falling falling x, le_segment_of_falling falling high.le⟩⟩

end Sys2Proof.Curves
end

section
/-! PROOFS. The indications (spec/08): the pins after every command, and the two lamps as conditions on the blocks. -/

namespace Sys2Proof.Indications

open Sys2Proof Sys2Proof.Machine

/-! ### The pins after a command -/

/-- Every command ends by driving the pins: its outcome is an answer. -/
theorem exec_eq_answer (i : Instr) (s : State) : ∃ u, exec i s = answer u := by
  cases i <;> exact ⟨_, rfl⟩

theorem pinsFollow_of_answer {u t : State} (h : answer u = .next t) : PinsFollow t := by
  rw [answer_next h, PinsFollow, outputsOf_drivePins, drivePins_out]

theorem pinsFollow_of_exec {i : Instr} {s t : State} (h : exec i s = .next t) : PinsFollow t := by
  obtain ⟨u, hu⟩ := exec_eq_answer i s
  exact pinsFollow_of_answer (hu.symm.trans h)

theorem warn_of_pinsFollow {t : State} (h : PinsFollow t) : t.out.warn = warnOutput t := congrArg OutPins.warn h

theorem fault_of_pinsFollow {t : State} (h : PinsFollow t) : t.out.fault = faultOutput t := congrArg OutPins.fault h

/-! ### The warn conditions (R172) -/

theorem mem_idents (i : Ident) : i ∈ idents := by
  revert i
  decide

theorem freshGuard_iff (slot : Option PeerRecord) :
    freshGuard slot = true ↔ ∃ r, slot = some r ∧ r.state = .fresh ∧ r.guard = true := by
  cases slot <;> simp [freshGuard]

theorem peerGuard_iff (pt : PeerTable) :
    peerGuard pt = true ↔ ∃ j r, slotGet pt j = some r ∧ r.state = .fresh ∧ r.guard = true := by
  simp only [peerGuard, List.any_eq_true, mem_idents, true_and, freshGuard_iff]

theorem demandLost_iff (d : Du) : demandLost d = true ↔ d.phase = .holding ∨ d.phase = .ramping := by
  cases h : d.phase <;> simp [demandLost, h]

theorem pedalDisagreement_iff (d : Du) : pedalDisagreement d = true ↔ d.pedal ≠ .clear := bne_iff_ne

theorem warnCondition_iff (t : State) :
    warnCondition t = true ↔
      t.pe.shortfall = true ∨ t.cu.guarded = true
        ∨ (∃ j r, slotGet t.pt j = some r ∧ r.state = .fresh ∧ r.guard = true)
        ∨ t.du.phase = .holding ∨ t.du.phase = .ramping ∨ t.du.pedal ≠ .clear ∨ 0 < t.stc.warnHold := by
  simp only [warnCondition, Bool.or_eq_true, decide_eq_true_eq, peerGuard_iff, demandLost_iff, pedalDisagreement_iff, or_assoc]

/-! ### The two lamps by station state (R172, R174) -/

/-- In FAULT the WARN lamp tells the cause, in the operating states it shows the warn conditions, and elsewhere it is dark. -/
theorem warnOutput_iff (t : State) :
    warnOutput t = true ↔
      t.stc.state = .fault ∧ t.stc.cause = .dupId
        ∨ (t.stc.state = .listen ∨ t.stc.state = .active ∨ t.stc.state = .localOnly ∨ t.stc.state = .leaving)
          ∧ warnCondition t = true := by
  cases state : t.stc.state <;> simp [warnOutput, state]

/-- In LISTEN, ACTIVE and LEAVING the FAULT lamp shows the sink; elsewhere the station state alone decides. -/
theorem faultOutput_iff (t : State) :
    faultOutput t = true ↔
      t.stc.state = .config ∨ t.stc.state = .localOnly ∨ t.stc.state = .fault
        ∨ (t.stc.state = .listen ∨ t.stc.state = .active ∨ t.stc.state = .leaving) ∧ t.sc.degraded = true := by
  cases state : t.stc.state <;> simp [faultOutput, state]

/-- Settles O51: after a command the pins are those of the blocks, and each lamp's output is its condition on them. -/
theorem lampOutputs : Obligations.LampOutputs := by
  intro i s t answers
  have pins : PinsFollow t := pinsFollow_of_exec answers
  rw [warn_of_pinsFollow pins, fault_of_pinsFollow pins, ← warnCondition_iff]
  exact ⟨warnOutput_iff t, faultOutput_iff t⟩

end Sys2Proof.Indications
end

section
/-! PROOFS. The configuration memory (spec/09): the fields of the accepted blocks at the addresses of R178, the checks as the rows of
R180, and where they lead the station. -/

namespace Sys2Proof.Memory

open Sys2Proof Sys2Proof.Machine

/-! ### The bytes a transaction clocks in (R176, R177) -/

theorem clockedIn_of_length {phase : LoadPhase} {miso : List Byte} (h : miso.length = transactionLength phase) :
    clockedIn phase miso = miso := by
  refine List.ext_getElem (by simp [clockedIn, h]) fun i _ hi => ?_
  simp [clockedIn, byteAt, List.getElem?_eq_getElem hi]

theorem blockMatches_iff (bytes : List Byte) :
    blockMatches bytes = true ↔ crc (bytes.take (bytes.length - 2)) = halfAt bytes (bytes.length - 2) := beq_iff_eq

/-- A local block of full length whose CRC matches is accepted as it stands. -/
theorem exec_spiTransactionEnd_of_accepted {s : State} {lb : List Byte} (config : s.stc.state = .config)
    (phase : s.loader.phase = .localBlock) (len : lb.length = 128) (good : crc (lb.take 126) = halfAt lb 126) :
    exec (.spiTransactionEnd lb) s = answer (s.bothAccepted lb) := by
  have whole : clockedIn s.loader.phase lb = lb := clockedIn_of_length (by rw [phase, len]; rfl)
  have matched : blockMatches lb = true := (blockMatches_iff lb).mpr (by rw [len]; exact good)
  simp only [exec, execSpiTransactionEnd, config, if_true, State.transactionEnds, whole]
  simp only [phase, matched, if_true]

/-! ### The layout (R178) -/

/-- The role is the low two bits of its byte. -/
theorem toNat_low_bits (b : Byte) : (b.extractLsb' 0 2).toNat = b.toNat % 4 := by simp

/-- A flag is one bit of its byte. -/
theorem getLsbD_eq_decide (b : Byte) (i : Nat) : b.getLsbD i = decide (b.toNat / 2 ^ i % 2 = 1) :=
  Nat.testBit_eq_decide_div_mod_eq

/-- The two's complement of a two-byte field. -/
theorem halfAt_toInt (b : List Byte) (i : Nat) :
    (halfAt b i).toInt = if nat2At b i < 32768 then (nat2At b i : Int) else (nat2At b i : Int) - 65536 := by
  rw [BitVec.toInt_eq_toNat_cond, nat2At]
  split <;> split <;> omega

theorem memByte_of_lt (sb lb : List Byte) {m : Nat} (h : m < 64) : memByte sb lb m = natAt sb m := if_pos h

theorem memByte_add (sb lb : List Byte) (i : Nat) : memByte sb lb (64 + i) = natAt lb i := by
  simp [memByte]

theorem sharedOf_eq (sb lb : List Byte) (profile : Half) : sharedOf sb = (configInMemory sb lb profile).shared := by
  simp [sharedOf, configInMemory, memField, memByte, nat2At_eq]

theorem curveAt_eq (sb lb : List Byte) (i : Nat) : curveAt lb i = curveInMemory sb lb (64 + i) := by
  simp [curveAt, curveInMemory, memField, memByte_add, nat2At_eq, Nat.add_assoc]

theorem localOf_eq (sb lb : List Byte) (profile : Half) : localOf lb = (configInMemory sb lb profile).loc := by
  simp only [localOf, nat2At_eq, curveAt_eq sb, toNat_low_bits, getLsbD_eq_decide, halfAt_toInt]
  rfl

/-- The loader reads every setting at its address. -/
theorem loadedCfg_eq (sb lb : List Byte) (profile : Half) : loadedCfg sb lb profile = configInMemory sb lb profile := by
  rw [loadedCfg, sharedOf_eq sb lb profile, localOf_eq sb lb profile]
  rfl

/-! ### The checks on a curve (R180) -/

theorem eachNext_iff_isChain (r : CurvePoint → CurvePoint → Bool) (ps : List CurvePoint) :
    eachNext r ps = true ↔ ps.IsChain fun p q => r p q = true := by
  refine ⟨Curves.isChain_of_eachNext, fun chain => ?_⟩
  induction chain with
  | nil => rfl
  | singleton p => rfl
  | cons_cons next _ ih => exact Bool.and_eq_true_iff.mpr ⟨next, ih⟩

/-- Point i of the curve whose point 0 stands at an address (R178). -/
def pointInMemory (sb lb : List Byte) (at0 i : Nat) : CurvePoint :=
  { x := memField sb lb (at0 + 4 * i), f := memField sb lb (at0 + 4 * i + 2) }

theorem curvePoints_curveInMemory (sb lb : List Byte) (at0 : Nat) :
    curvePoints (curveInMemory sb lb at0) = (List.range 6).map (pointInMemory sb lb at0) := rfl

/-- A check between neighbours of a stored curve is one between each of the points 0 to 4 and the next. -/
theorem eachNext_curveInMemory_iff (sb lb : List Byte) (at0 : Nat) (r : CurvePoint → CurvePoint → Bool) :
    eachNext r (curvePoints (curveInMemory sb lb at0)) = true
      ↔ ∀ i, i < 5 → r (pointInMemory sb lb at0 i) (pointInMemory sb lb at0 (i + 1)) = true := by
  rw [eachNext_iff_isChain, curvePoints_curveInMemory, List.isChain_map, List.isChain_range]

theorem curveOk_iff (sb lb : List Byte) (at0 : Nat) :
    curveOk (curveInMemory sb lb at0) = true ↔ CurveChecks sb lb at0 := by
  rw [curveOk, Bool.and_eq_true, eachNext_curveInMemory_iff, curvePoints_curveInMemory]
  simp only [List.all_map, List.all_eq_true, List.mem_range, Function.comp_apply, decide_eq_true_eq]
  rfl

theorem curveFalls_iff (sb lb : List Byte) (at0 : Nat) :
    curveFalls (curveInMemory sb lb at0) = true
      ↔ ∀ i, i < 5 → memField sb lb (at0 + 4 * (i + 1) + 2) ≤ memField sb lb (at0 + 4 * i + 2) := by
  simp only [curveFalls, eachNext_curveInMemory_iff, decide_eq_true_eq]
  rfl

/-! ### The table of checks (R180) -/

theorem sharedOk_iff (sb lb : List Byte) :
    sharedOk (sharedOf sb) = true ↔
      memByte sb lb 0 ≤ 2 ∧ (2 ≤ memByte sb lb 1 ∧ memByte sb lb 1 ≤ 10)
        ∧ (10 ≤ memByte sb lb 2 ∧ memByte sb lb 2 ≤ 200)
        ∧ memByte sb lb 1 < memByte sb lb 2 ∧ memByte sb lb 1 < memByte sb lb 5 := by
  rw [sharedOf_eq sb lb 0]
  simp only [sharedOk, Bool.and_eq_true, decide_eq_true_eq, and_assoc]
  rfl

theorem memByte_eq_zero_iff (sb lb : List Byte) {m : Nat} (h : m < 64) : memByte sb lb m = 0 ↔ byteAt sb m = 0 := by
  rw [memByte_of_lt sb lb h]
  exact BitVec.toNat_inj (y := 0#8)

theorem unusedOk_iff (sb lb : List Byte) :
    unusedOk sb = true ↔ memByte sb lb 11 = 0 ∧ ∀ i, 20 ≤ i → i ≤ 45 → memByte sb lb i = 0 := by
  simp only [unusedOk, Bool.and_eq_true, beq_iff_eq, List.all_eq_true, List.mem_range]
  refine and_congr (memByte_eq_zero_iff sb lb (by decide)).symm ⟨fun zero i low high => ?_, fun zero i small => ?_⟩
  · have at_i := zero (i - 20) (by omega)
    rw [Nat.add_sub_cancel' low] at at_i
    exact (memByte_eq_zero_iff sb lb (by omega)).mpr at_i
  · exact (memByte_eq_zero_iff sb lb (by omega)).mp (zero (20 + i) (by omega) (by omega))

/-- The checks on the local fields, over the settings as the memory holds them. -/
theorem localOk_configInMemory_iff (sb lb : List Byte) (profile : Half) :
    let b := memByte sb lb
    let w := memField sb lb
    localOk (configInMemory sb lb profile).loc = true ↔
      b 64 % 4 ≤ 2
        ∧ (b 64 % 4 = 2 → 1 ≤ b 66 ∧ b 66 ≤ 100) ∧ (b 64 % 4 = 0 → 1 ≤ b 65 ∧ b 65 ≤ 7)
        ∧ CurveChecks sb lb 84 ∧ CurveChecks sb lb 108
        ∧ (∀ i, i < 5 → w (84 + 4 * (i + 1) + 2) ≤ w (84 + 4 * i + 2))
        ∧ w 134 < w 132 ∧ w 68 ≤ 2047 ∧ (w 72 ≤ w 70 ∧ w 70 ≤ 2047) ∧ w 142 ≤ w 144 ∧ 1 ≤ w 150 ∧ 1 ≤ w 146 := by
  simp only [localOk, Bool.and_eq_true, decide_eq_true_eq, Bool.or_eq_true, bne_iff_ne, ne_eq, ← imp_iff_not_or, and_assoc]
  simp only [configInMemory, curveOk_iff, curveFalls_iff]

/-- The loader's checks are the rows of R180. -/
theorem checksPass_iff (sb lb : List Byte) : checksPass sb lb = true ↔ MemoryChecks sb lb := by
  simp only [checksPass, Bool.and_eq_true, sharedOk_iff sb lb, unusedOk_iff sb lb, localOf_eq sb lb 0,
    localOk_configInMemory_iff, MemoryChecks, and_assoc]

/-! ### Where the checks lead (R158, R180) -/

theorem bothAccepted_of_checks {s : State} {lb : List Byte} (ok : MemoryChecks s.loader.sharedBytes lb) :
    s.bothAccepted lb
      = (s.setLoader Loader.powerOn).putInForce (configInMemory s.loader.sharedBytes lb s.loader.profile) := by
  rw [← loadedCfg_eq]
  exact if_pos ((checksPass_iff _ lb).mpr ok)

theorem bothAccepted_of_not_checks {s : State} {lb : List Byte} (bad : ¬MemoryChecks s.loader.sharedBytes lb) :
    s.bothAccepted lb = s.loadInvalid :=
  if_neg (mt (checksPass_iff _ lb).mp bad)

/-- A configuration put in force leads to LISTEN with its counts at 0 (R158, R159). -/
theorem putInForce_stc (s : State) (c : Cfg) :
    (s.putInForce c).stc = { s.stc with state := .listen, listenCount := 0, ignOffCount := 0 } := by
  simp [State.putInForce, State.enterListen]

theorem loadInvalid_stc (s : State) :
    s.loadInvalid.stc = { s.stc with state := .fault, cause := .config, ignOffCount := 0, warnHold := 0 } := by
  simp [State.loadInvalid, State.enterFault]

/-- An invalid configuration leaves nothing under way on the line (R101). -/
theorem loadInvalid_tx (s : State) : s.loadInvalid.lp.tx = none := by
  simp [State.loadInvalid, State.enterFault, lpOff]

/-- The pins of FAULT with cause CONFIG and no frame under way (R90, R172, R174). -/
theorem outputsOf_loadInvalid (s : State) :
    (outputsOf s.loadInvalid).fault = true ∧ (outputsOf s.loadInvalid).warn = false
      ∧ (outputsOf s.loadInvalid).de = false ∧ (outputsOf s.loadInvalid).txd = none := by
  simp [outputsOf, faultOutput, warnOutput, State.de, loadInvalid_stc, loadInvalid_tx]

/-- Settles O7: the loader's checks are the rows of R180, and each outcome has one way on. -/
theorem configurationChecks : Obligations.ConfigurationChecks := by
  intro s lb config phase _ len good
  refine ⟨_, exec_spiTransactionEnd_of_accepted config phase len good, fun ok => ?_, fun bad => ?_⟩
  · rw [drivePins_stc, bothAccepted_of_checks ok, putInForce_stc]
    exact ⟨rfl, rfl⟩
  · rw [drivePins_stc, drivePins_out, bothAccepted_of_not_checks bad, loadInvalid_stc]
    exact ⟨rfl, rfl, outputsOf_loadInvalid s⟩

end Sys2Proof.Memory
end

section
/-! PROOFS. The shortfall state (spec/10, R183 to R185): what a plan does to the state, to its run count and to STX. -/

namespace Sys2Proof.Shortfall

open Sys2Proof Sys2Proof.Machine

/-! ### An offered alert and PE: neither looks at the other -/

theorem putStx_setPe (s : State) (pe : Pe) (x : Stx) : (s.setPe pe).putStx x = (s.putStx x).setPe pe := by
  rw [putStx_eq, putStx_eq]
  rfl

theorem fillUrgent_setPe (s : State) (pe : Pe) : (s.setPe pe).fillUrgent = s.fillUrgent.setPe pe := by
  unfold State.fillUrgent
  simp only [setPe_stc, setPe_stx, putStx_setPe]
  split <;> rfl

theorem offerAlert_setPe (s : State) (pe : Pe) (a : Alert) : (s.setPe pe).offerAlert a = (s.offerAlert a).setPe pe := by
  unfold State.offerAlert
  rw [setPe_stc]
  split
  · exact fillUrgent_setPe (s.setStx { s.stx with queue := enqueue a s.stx.queue }) pe
  · rfl

theorem offer_setPe (s : State) (pe : Pe) (a : Option Alert) : (s.setPe pe).offer a = (s.offer a).setPe pe := by
  cases a with
  | none => rfl
  | some a => exact offerAlert_setPe s pe a

/-! ### The state and its run count (R183, R184) -/

theorem farSide_off_iff (c : Cfg) (short : Nat) : farSide c false short = true ↔ shortMinUsed c < short :=
  decide_eq_true_iff

theorem farSide_on_iff (c : Cfg) (short : Nat) : farSide c true short = true ↔ short ≤ shortMinUsed c :=
  decide_eq_true_iff

/-- A plan on the near side keeps the state and breaks the run. -/
theorem shortfallNext_of_near {c : Cfg} {short : Nat} {on : Bool} (near : ¬farSide c on short = true) (run : Nat) :
    shortfallNext c short on run = (on, 0) := if_neg near

/-- A plan on the far side is counted while the run is short of SHORT_PERIODS. -/
theorem shortfallNext_of_counted {c : Cfg} {short run : Nat} {on : Bool} (far : farSide c on short = true)
    (few : ¬run + 1 ≥ c.shared.shortPeriods) : shortfallNext c short on run = (on, run + 1) :=
  (if_pos far).trans (if_pos (Nat.not_le.mp few))

/-- The plan that completes the run changes the state and starts a new count. -/
theorem shortfallNext_of_turned {c : Cfg} {short run : Nat} {on : Bool} (far : farSide c on short = true)
    (enough : run + 1 ≥ c.shared.shortPeriods) : shortfallNext c short on run = (!on, 0) :=
  (if_pos far).trans (if_neg (Nat.not_lt.mpr enough))

/-! ### The alert (R185) -/

/-- A plan after which the state is OFF, or before which it was ON, offers nothing. -/
theorem shortfallAlert_of_not_turned_on {s : State} {pe : Pe} (p : Plan)
    (keeps : s.pe.shortfall = false → pe.shortfall = false) : shortfallAlert s p pe = none := by
  unfold shortfallAlert
  cases before : s.pe.shortfall with
  | false => simp [keeps before]
  | true => simp

theorem shortfallAlert_of_turned_on {s : State} {pe : Pe} (p : Plan) (off : s.pe.shortfall = false)
    (on : pe.shortfall = true) :
    shortfallAlert s p pe = if s.isSource = true then some (mkAlert .shortfall s.stc.id p.s) else none := by
  simp [shortfallAlert, off, on]

/-! ### A plan in ACTIVE -/

/-- What a plan leaves in the shortfall state and in the run count. -/
theorem planNow_shortfall (s : State) :
    (s.planNow.pe.shortfall, s.planNow.pe.run) = shortfallNext s.cfg (computePlan s).s s.pe.shortfall s.pe.run := by
  simp [State.planNow, peNext]

/-- Of a plan STX sees the alert alone. -/
theorem planNow_stx (s : State) : s.planNow.stx = (s.offer (shortfallAlert s (computePlan s) s.planNow.pe)).stx := by
  simp [State.planNow, offer_setPe]

/-- A plan whose outcome is not a turn from OFF to ON leaves STX alone. -/
theorem planNow_of_not_turned_on {s : State} {on : Bool} {run : Nat}
    (next : shortfallNext s.cfg (computePlan s).s s.pe.shortfall s.pe.run = (on, run))
    (keeps : s.pe.shortfall = false → on = false) :
    s.planNow.pe.shortfall = on ∧ s.planNow.pe.run = run ∧ s.planNow.stx = s.stx := by
  obtain ⟨shortfall_eq, run_eq⟩ := Prod.mk.inj ((planNow_shortfall s).trans next)
  refine ⟨shortfall_eq, run_eq, ?_⟩
  rw [planNow_stx, shortfallAlert_of_not_turned_on _ (shortfall_eq ▸ keeps), offer_none]

/-- The plan that turns the state on offers the alert of a demand source. -/
theorem planNow_of_turned_on {s : State} {run : Nat} (off : s.pe.shortfall = false)
    (next : shortfallNext s.cfg (computePlan s).s s.pe.shortfall s.pe.run = (true, run)) :
    s.planNow.pe.shortfall = true ∧ s.planNow.pe.run = run
      ∧ s.planNow.stx
        = (if s.isSource = true then s.offerAlert (mkAlert .shortfall s.stc.id (computePlan s).s) else s).stx := by
  obtain ⟨shortfall_eq, run_eq⟩ := Prod.mk.inj ((planNow_shortfall s).trans next)
  refine ⟨shortfall_eq, run_eq, ?_⟩
  rw [planNow_stx, shortfallAlert_of_turned_on _ off shortfall_eq]
  split <;> rfl

theorem exec_peEvaluationExpiry_of_active {s : State} (active : s.stc.state = .active) :
    exec .peEvaluationExpiry s = .next s.planNow.drivePins :=
  congrArg answer (if_pos active)

/-- Settles O15: from each shortfall state, a plan on the near side, a plan that is counted, and the plan that turns it. -/
theorem shortfallStateCountsPlans : Obligations.ShortfallStateCountsPlans := by
  intro s active short low turns
  refine ⟨_, exec_peEvaluationExpiry_of_active active, ?_⟩
  rw [drivePins_pe, drivePins_stx]
  have far_of_off (off : s.pe.shortfall = false) : farSide s.cfg s.pe.shortfall short = true ↔ low < short :=
    off ▸ farSide_off_iff s.cfg short
  have far_of_on (on : s.pe.shortfall = true) : farSide s.cfg s.pe.shortfall short = true ↔ short ≤ low :=
    on ▸ farSide_on_iff s.cfg short
  refine ⟨fun off le => ?_, fun off gt few => ?_, fun off gt enough => ?_, fun on gt => ?_, fun on le few => ?_,
    fun on le enough => ?_⟩
  · have near := mt (far_of_off off).mp (Nat.not_lt.mpr le)
    exact off ▸ planNow_of_not_turned_on (shortfallNext_of_near near _) id
  · have far := (far_of_off off).mpr gt
    exact off ▸ planNow_of_not_turned_on (shortfallNext_of_counted far few) id
  · have next := shortfallNext_of_turned ((far_of_off off).mpr gt) enough
    exact planNow_of_turned_on off (next.trans (by rw [off]; rfl))
  · have near := mt (far_of_on on).mp (Nat.not_le.mpr gt)
    exact on ▸ planNow_of_not_turned_on (shortfallNext_of_near near _) id
  · have far := (far_of_on on).mpr le
    exact on ▸ planNow_of_not_turned_on (shortfallNext_of_counted far few) id
  · have next := shortfallNext_of_turned ((far_of_on on).mpr le) enough
    exact planNow_of_not_turned_on (next.trans (by rw [on]; rfl)) fun _ => rfl

end Sys2Proof.Shortfall
end

section
/-! PROOFS. The commands as a whole: the work of each one before the pins are driven, how an invariant of steps follows from
it, and what an alert on offer does to the rest of the part (R84, R86, R88). -/

namespace Sys2Proof.Commands

open Sys2Proof Sys2Proof.Machine

/-! ### The work of a command -/

/-- What a command does to the blocks, before the pins follow them. -/
def work (i : Instr) (s : State) : State :=
  match i with
  | .powerOn => s.enterConfig
  | .resetn => s.enterConfig.latchResetn false
  | .configurationRead straps =>
    if s.stc.state = .config ∧ s.loader.phase = .idle then
      ((s.latchStraps straps).setStc { s.stc with id := straps.toFin }).setLoader
        { Loader.powerOn with phase := .sharedBlock }
    else s.latchStraps straps
  | .spiTransactionEnd miso => if s.stc.state = .config then s.transactionEnds miso else s
  | .peEvaluationExpiry => if s.stc.state = .active then s.planNow else s
  | .duEvaluationExpiry pa pb stk =>
    if demandRuns s.stc.state then (s.latchDriver pa pb stk).evaluateDemand else s.latchDriver pa pb stk
  | .ageExpiry => s.setPt (slotsMap (agedSlot s.cfg) s.pt)
  | .sinkExpiry fb temp pos =>
    if operating s.stc.state then (s.latchSink fb temp pos).sinkStages else s.latchSink fb temp pos
  | .thermalExpiry => if operating s.stc.state ∧ s.role = .axle then s.heatAndCool else s
  | .amEvaluationExpiry => if operating s.stc.state then s.evaluateAdhesion else s
  | .standingExpiry => if s.stc.state = .active then s.enterSlot .standing (.standing (formStanding s)) else s
  | .demandExpiry =>
    if s.stc.state = .active ∧ s.isSource then s.enterSlot .demand (.demand (BitVec.ofNat 16 s.du.own)) else s
  | .stcEvaluationExpiry ign => (s.latchIgn ign).warnCountdown.stationWork
  | .parkTimerTick =>
    if s.stc.state = .parked then s.setStc { s.stc with parkTimer := min 65535 (s.stc.parkTimer + 1) } else s
  | .engPulse =>
    if operating s.stc.state ∧ s.role = .exhaust ∧ s.cu.engOpen then
      s.setCu { s.cu with engPulses := s.cu.engPulses + 1 }
    else s
  | .wheelPulse =>
    if operating s.stc.state ∧ s.role = .axle ∧ s.am.windowOpen then
      s.setAm { s.am with pulses := min 65535 (s.am.pulses + 1) }
    else s
  | .lineFreePoint quiet =>
    if operating s.stc.state ∧ s.lp.line = .busy ∧ quietBits ≤ quiet then s.setLp (lpLineFree s.lp) else s
  | .accessWaitEnd elapsed => s.tryStart elapsed
  | .characterReadBack read ign =>
    match s.lp.tx with
    | some f => (s.latchIgn ign).readBack f read
    | none => s.latchIgn ign
  | .characterReceived c =>
    if operating s.stc.state then
      (s.setLp { s.lp with tail := .none }).characterArrives c (underDE s) (ownCompleted s c)
    else s
  | .startBit => if operating s.stc.state then s.setLp { s.lp with line := .busy, tail := .none } else s

/-- A command answers with its work, the pins driven. -/
theorem exec_eq_next_work (i : Instr) (s : State) : exec i s = .next (work i s).drivePins := by
  cases i <;> rfl

theorem eq_of_exec_eq_next {i : Instr} {s t : State} (h : exec i s = .next t) : t = (work i s).drivePins := by
  rw [exec_eq_next_work, Host.Outcome.next.injEq] at h
  exact h.symm

/-- The work of a command under a condition that holds. -/
theorem exec_of_work {i : Instr} {s u : State} (h : work i s = u) : exec i s = .next u.drivePins := by
  rw [exec_eq_next_work, h]

/-- Driving the pins of a state whose blocks did not change changes the pins alone. -/
theorem exec_of_work_self {i : Instr} {s : State} (h : work i s = s) :
    exec i s = .next { s with out := outputsOf s } := exec_of_work h

/-- A state with its pins driven, from the state before written out. -/
theorem drivePins_of_eq {u v : State} (h : u = v) : u.drivePins = { v with out := outputsOf u.drivePins } := by
  rw [outputsOf_drivePins, h]
  rfl

/-- What looks neither at the pins nor at the queue is kept by every step if the work of every command keeps it. -/
theorem step_keeps {P : State → Prop} (pins : ∀ s, P s → P s.drivePins)
    (queue : ∀ s cs, P s → P (s.setPending cs)) (works : ∀ i s, P s → P (work i s)) {s t : State} (h : P s)
    (taken : step s = .next t) : P t := by
  unfold step at taken
  split at taken
  · cases taken
    exact h
  · rw [eq_of_exec_eq_next taken]
    exact pins _ (works _ _ (queue _ _ h))

/-- Two states with the same parts are the same state. -/
theorem state_ext {s t : State} (cfg : s.cfg = t.cfg) (stc : s.stc = t.stc) (loader : s.loader = t.loader) (lp : s.lp = t.lp)
    (stx : s.stx = t.stx) (pt : s.pt = t.pt) (pe : s.pe = t.pe) (du : s.du = t.du) (cu : s.cu = t.cu) (te : s.te = t.te)
    (am : s.am = t.am) (sc : s.sc = t.sc) (inp : s.inp = t.inp) (out : s.out = t.out) (pending : s.pending = t.pending) :
    s = t := by
  cases s
  cases t
  simp_all only

/-! ### What an alert on offer changes -/

/-- From one state to the next nothing changes but STX and the access origin. -/
def OnlyStxAndOrigin (s t : State) : Prop := t = { s with stx := t.stx, lp := { s.lp with origin := t.lp.origin } }

theorem onlyStxAndOrigin_refl (s : State) : OnlyStxAndOrigin s s := rfl

theorem onlyStxAndOrigin_trans {s t u : State} (h : OnlyStxAndOrigin s t) (h' : OnlyStxAndOrigin t u) :
    OnlyStxAndOrigin s u := by
  unfold OnlyStxAndOrigin at *
  rw [h', h]

theorem putStx_onlyStxAndOrigin (s : State) (x : Stx) : OnlyStxAndOrigin s (s.putStx x) := by
  rw [putStx_eq]
  rfl

theorem fillUrgent_onlyStxAndOrigin (s : State) : OnlyStxAndOrigin s s.fillUrgent := by
  obtain h | ⟨-, -, a, rest, -, h⟩ := fillUrgent_cases s
  · rw [h]
    exact onlyStxAndOrigin_refl s
  · rw [h]
    exact putStx_onlyStxAndOrigin s _

theorem offerAlert_onlyStxAndOrigin (a : Alert) (s : State) : OnlyStxAndOrigin s (s.offerAlert a) := by
  unfold State.offerAlert
  split
  · exact onlyStxAndOrigin_trans (t := s.setStx _) rfl (fillUrgent_onlyStxAndOrigin _)
  · exact onlyStxAndOrigin_refl s

theorem offer_onlyStxAndOrigin (a : Option Alert) (s : State) : OnlyStxAndOrigin s (s.offer a) := by
  cases a with
  | none => exact onlyStxAndOrigin_refl s
  | some a => exact offerAlert_onlyStxAndOrigin a s

/-- Of LP an alert on offer can change the access origin alone (R88). -/
theorem offer_lp (a : Option Alert) (s : State) : (s.offer a).lp = { s.lp with origin := (s.offer a).lp.origin } :=
  congrArg State.lp (offer_onlyStxAndOrigin a s)

/-! ### The access origin (R88) -/

theorem originFollows_of_no_pending_change {s t : State} (origin : t.lp.origin = s.lp.origin)
    (pending : anyPending t.stx = true → anyPending s.stx = true) : OriginFollows s t := by
  unfold OriginFollows
  rw [if_neg fun ⟨_, _, none_before, some_after⟩ => by simp [pending some_after] at none_before]
  exact origin

theorem originFollows_putStx (s : State) (x : Stx) : OriginFollows s (s.putStx x) := by
  simp [OriginFollows, putStx_eq]

theorem originFollows_fillUrgent (s : State) : OriginFollows s s.fillUrgent := by
  obtain h | ⟨-, -, a, rest, -, h⟩ := fillUrgent_cases s
  · rw [h]
    exact originFollows_of_no_pending_change rfl id
  · rw [h]
    exact originFollows_putStx s _

/-- The rule for the origin looks at the line, at the frame under way, and at whether a slot is PENDING. -/
theorem originFollows_congr {s t s' t' : State} (h : OriginFollows s t) (lp : s'.lp = s.lp)
    (before : anyPending s'.stx = anyPending s.stx) (origin : t'.lp.origin = t.lp.origin)
    (after : anyPending t'.stx = anyPending t.stx) : OriginFollows s' t' := by
  unfold OriginFollows at *
  rw [lp, before, origin, after]
  exact h

/-- Two changes of STX in one event set the origin as one, where the second leaves a PENDING slot PENDING. -/
theorem originFollows_trans {s t u : State} (h : OriginFollows s t) (h' : OriginFollows t u)
    (line : t.lp.line = s.lp.line) (tx : t.lp.tx = s.lp.tx)
    (first : anyPending s.stx = true → anyPending t.stx = true)
    (second : anyPending t.stx = true → anyPending u.stx = true) : OriginFollows s u := by
  unfold OriginFollows at *
  rw [h', h, line, tx]
  cases before : anyPending s.stx <;> cases middle : anyPending t.stx <;> simp_all

theorem anyPending_fillUrgent {s : State} (h : anyPending s.stx = true) : anyPending s.fillUrgent.stx = true := by
  obtain keeps | ⟨-, empty, a, rest, -, moves⟩ := fillUrgent_cases s
  · rwa [keeps]
  · rw [moves, putStx_stx]
    rfl

theorem anyPending_offer {s : State} (a : Option Alert) (h : anyPending s.stx = true) :
    anyPending (s.offer a).stx = true := by
  cases a with
  | none => exact h
  | some a =>
    rw [offer_some, State.offerAlert]
    split
    · exact anyPending_fillUrgent h
    · exact h

theorem originFollows_offer (a : Option Alert) (s : State) : OriginFollows s (s.offer a) := by
  cases a with
  | none => exact originFollows_of_no_pending_change rfl id
  | some a =>
    rw [offer_some, State.offerAlert]
    split
    · exact originFollows_congr (originFollows_fillUrgent (s.setStx { s.stx with queue := enqueue a s.stx.queue })) rfl rfl
        rfl rfl
    · exact originFollows_of_no_pending_change rfl id

theorem originFollows_offer_offer (a b : Option Alert) (s : State) : OriginFollows s ((s.offer a).offer b) := by
  refine originFollows_trans (originFollows_offer a s) (originFollows_offer b _) ?_ ?_ (anyPending_offer a)
    (anyPending_offer b) <;> rw [offer_lp]

/-! ### What an alert on offer looks at -/

theorem fillUrgent_stx_congr {s t : State} (state : s.stc.state = t.stc.state) (stx : s.stx = t.stx) :
    s.fillUrgent.stx = t.fillUrgent.stx := by
  unfold State.fillUrgent
  rw [state, stx]
  split <;> simp [stx]

/-- What STX makes of an alert depends on STX and on the station state alone (R84). -/
theorem offerAlert_stx_congr {s t : State} (a : Alert) (state : s.stc.state = t.stc.state) (stx : s.stx = t.stx) :
    (s.offerAlert a).stx = (t.offerAlert a).stx := by
  unfold State.offerAlert
  rw [state, stx]
  split
  · exact fillUrgent_stx_congr state rfl
  · exact stx

theorem offer_stx_congr {s t : State} (a : Option Alert) (state : s.stc.state = t.stc.state) (stx : s.stx = t.stx) :
    (s.offer a).stx = (t.offer a).stx := by
  cases a with
  | none => exact stx
  | some a => exact offerAlert_stx_congr a state stx

end Sys2Proof.Commands
end

section
/-! PROOFS. What each command can do, path by path: one lemma for each operation that branches, so that an invariant is proved
for the paths and not for the branches anew. -/

namespace Sys2Proof.Paths

open Sys2Proof Sys2Proof.Machine

/-! ### STC's own values after the entries to the station states -/

@[simp] theorem enterListen_stc (s : State) :
    s.enterListen.stc = { s.stc with state := .listen, listenCount := 0, ignOffCount := 0 } := rfl

@[simp] theorem enterActive_stc (s : State) : s.enterActive.stc = { s.stc with state := .active } := by
  simp [State.enterActive]

@[simp] theorem enterLocal_stc (s : State) : s.enterLocal.stc = { s.stc with state := .localOnly } := rfl

@[simp] theorem enterLeaving_stc (s : State) :
    s.enterLeaving.stc = { s.stc with state := .leaving, ignOffCount := 0, leaveCount := 0 } := by
  simp [State.enterLeaving]

@[simp] theorem enterFault_stc (cause : FaultCause) (s : State) :
    (s.enterFault cause).stc = { s.stc with state := .fault, cause := cause, ignOffCount := 0, warnHold := 0 } := rfl

@[simp] theorem park_stc (s : State) :
    s.park.stc = { s.stc with state := .parked, ignOffCount := 0, parkTimer := 0, warnHold := 0 } := rfl

@[simp] theorem wake_stc (s : State) :
    s.wake.stc = { s.stc with state := .listen, listenCount := 0, ignOffCount := 0 } := by
  simp [State.wake]

@[simp] theorem wake_lp (s : State) : s.wake.lp = lpStart s.lp := by simp [State.wake]

@[simp] theorem putInForce_lp (s : State) (c : Cfg) : (s.putInForce c).lp = lpStart s.lp := by simp [State.putInForce]

/-! ### A change of standing (R162) -/

theorem takeStanding_cases (s : State) (before : Standing) :
    s.takeStanding before = s
        ∧ ¬(s.stc.state = .active ∧ before ≠ .silent ∧ s.standing = .silent)
        ∧ ¬(s.stc.state = .localOnly ∧ before = .silent ∧ s.standing ≠ .silent)
      ∨ s.stc.state = .active ∧ before ≠ .silent ∧ s.standing = .silent ∧ s.takeStanding before = s.enterLocal
      ∨ s.stc.state = .localOnly ∧ before = .silent ∧ s.standing ≠ .silent
        ∧ s.takeStanding before = s.enterListen := by
  unfold State.takeStanding
  cases state : s.stc.state <;> simp only [reduceCtorEq, false_and, true_and, not_false_eq_true, and_self, false_or, or_false, and_true]
  · split <;> rename_i cond
    · exact .inr ⟨cond.1, cond.2, rfl⟩
    · exact .inl ⟨rfl, cond⟩
  · split <;> rename_i cond
    · exact .inr ⟨cond.1, cond.2, rfl⟩
    · exact .inl ⟨rfl, cond⟩

/-- What is kept by new counts of LP and by the two entries a change of standing brings is kept by `countLp`. -/
theorem countLp_keeps {P : State → Prop} {s : State} {lp : Lp} (counts : P (s.setLp lp))
    (toLocal : s.stc.state = .active → s.standing ≠ .silent → standingOf lp.trouble = .silent →
      P (s.setLp lp).enterLocal)
    (toListen : s.stc.state = .localOnly → s.standing = .silent → standingOf lp.trouble ≠ .silent →
      P (s.setLp lp).enterListen) : P (s.countLp lp) := by
  unfold State.countLp
  obtain ⟨h, -, -⟩ | ⟨state, before, now, h⟩ | ⟨state, before, now, h⟩ := takeStanding_cases (s.setLp lp) s.standing <;>
    rw [h]
  · exact counts
  · exact toLocal state before now
  · exact toListen state before now

/-! ### The frame being sent (R90 to R92) -/

theorem leaveReported_cases (s : State) (gone : Bool) :
    s.leaveReported gone = s ∧ ¬(gone = true ∧ s.stc.state = .leaving)
      ∨ gone = true ∧ s.stc.state = .leaving ∧ s.leaveReported gone = s.enterParked := by
  unfold State.leaveReported
  split <;> rename_i cond
  · exact .inr ⟨cond.1, cond.2, rfl⟩
  · exact .inl ⟨rfl, cond⟩

theorem enterParked_cases (s : State) :
    s.inp.ign = false ∧ s.enterParked = s.park ∨ s.inp.ign = true ∧ s.enterParked = s.park.wake := by
  unfold State.enterParked
  cases s.inp.ign <;> simp

theorem frameCompleted_of_sending {s : State} {cls : SlotClass} {h : Held} {followUp : Option Statement} {noRetry : Bool}
    (sending : slotOf s.stx cls = .sending h followUp noRetry) :
    s.frameCompleted cls
      = (((s.setLp (lpLower s.lp)).putStx (withSlot s.stx cls (slotAfterCompletion followUp))).fillUrgent).leaveReported
          (h.stmt == .leave) := by
  simp only [State.frameCompleted, sending, setLp_stx]

/-- With no slot SENDING there is nothing to settle. -/
theorem frameCompleted_cases (s : State) (cls : SlotClass) :
    s.frameCompleted cls = s ∧ (∀ h u n, slotOf s.stx cls ≠ .sending h u n)
      ∨ ∃ h followUp noRetry, slotOf s.stx cls = .sending h followUp noRetry := by
  cases slot : slotOf s.stx cls with
  | empty => exact .inl ⟨by simp only [State.frameCompleted, slot], by simp⟩
  | pending h => exact .inl ⟨by simp only [State.frameCompleted, slot], by simp⟩
  | sending h u n => exact .inr ⟨h, u, n, rfl⟩

/-- The attempt that has failed settled in its slot, and the urgent slot filled (R86, R91). -/
def settled (s : State) (cls : SlotClass) (h : Held) (followUp : Option Statement) (noRetry : Bool) : State :=
  (s.putStx (withSlot s.stx cls (slotAfterFailure h followUp noRetry))).fillUrgent

theorem attemptFailed_of_sending {s : State} {cls : SlotClass} {h : Held} {followUp : Option Statement} {noRetry : Bool}
    (sending : slotOf s.stx cls = .sending h followUp noRetry) :
    s.attemptFailed cls
      = (if thirdFailure h then
          (settled s cls h followUp noRetry).countLp (lpRaise 8 (settled s cls h followUp noRetry).lp)
        else settled s cls h followUp noRetry).leaveReported (thirdFailure h && h.stmt == .leave) := by
  simp only [State.attemptFailed, sending, settled]

theorem attemptFailed_cases (s : State) (cls : SlotClass) :
    s.attemptFailed cls = s ∧ (∀ h u n, slotOf s.stx cls ≠ .sending h u n)
      ∨ ∃ h followUp noRetry, slotOf s.stx cls = .sending h followUp noRetry := by
  cases slot : slotOf s.stx cls with
  | empty => exact .inl ⟨by simp only [State.attemptFailed, slot], by simp⟩
  | pending h => exact .inl ⟨by simp only [State.attemptFailed, slot], by simp⟩
  | sending h u n => exact .inr ⟨h, u, n, rfl⟩

/-- The three ways on from a read-back: the next character, completion, collision. -/
theorem readBack_cases (s : State) (f : TxFrame) (read : Option Character) :
    read.any (readBackMatches f) = true ∧ f.idx + 1 < f.bytes.length
        ∧ s.readBack f read = s.setLp { s.lp with tx := some { f with idx := f.idx + 1 } }
      ∨ read.any (readBackMatches f) = true ∧ f.bytes.length ≤ f.idx + 1
        ∧ s.readBack f read = (s.setLp (lpFrameEnds .completed read s.lp)).frameCompleted f.cls
      ∨ read.any (readBackMatches f) = false
        ∧ s.readBack f read = (s.setLp (lpFrameEnds .collided read s.lp)).attemptFailed f.cls := by
  unfold State.readBack
  split <;> rename_i matched
  · split <;> rename_i last
    · exact .inr (.inl ⟨matched, of_decide_eq_true last, rfl⟩)
    · exact .inl ⟨matched, Nat.not_le.mp (fun le => last (decide_eq_true le)), rfl⟩
  · exact .inr (.inr ⟨Bool.not_eq_true _ ▸ matched, rfl⟩)

/-! ### The receiver (R94 to R97) -/

/-- The receiver after a header character of a known kind. -/
def rxBegun (b : Byte) (n : Nat) (own : Bool) : Receiver :=
  .inFrame { bytes := [b], expected := n, begunDE := own, allDE := own }

theorem headerLength_pos {b : Byte} {n : Nat} (h : headerLength b = some n) : 1 < n := by
  unfold headerLength at h
  split at h
  · simp at h
  · split at h <;> simp at h <;> omega

theorem receiverLegal_of_not_inFrame {s : State} (h : ∀ f, s.lp.rx ≠ .inFrame f) : ReceiverLegal s :=
  fun f inFrame => absurd inFrame (h f)

theorem receiverLegal_begun {s : State} {b : Byte} {n : Nat} (own : Bool) (h : headerLength b = some n) :
    ReceiverLegal (s.setRx (rxBegun b n own)) := by
  rintro f ⟨⟩
  exact ⟨headerLength_pos h, by simp, h⟩

theorem receiverLegal_append {s : State} {f : RxFrame} {b : Byte} {own : Bool} (rx : s.lp.rx = .inFrame f)
    (short : f.bytes.length + 1 < f.expected) (legal : ReceiverLegal s) :
    ReceiverLegal (s.setRx (.inFrame (rxAppend f b own))) := by
  obtain ⟨-, nonempty, header⟩ := legal f rx
  rintro g ⟨⟩
  refine ⟨by simpa [rxAppend] using short, by simp [rxAppend], ?_⟩
  obtain ⟨b0, rest, bytes⟩ := List.exists_cons_of_ne_nil nonempty
  rw [bytes] at header
  simpa [rxAppend, bytes, byteAt] using header

/-- What is kept by each way on from a character is kept by its arrival: the receiver alone changes; an error is counted; a frame of
the own identity is a duplicate; a peer's frame is counted and handed on. -/
theorem characterArrives_keeps {P : State → Prop} {s : State} (c : Character) (own completed : Bool)
    (rx : ∀ rx, (ReceiverLegal s → ReceiverLegal (s.setRx rx)) → s.lp.rx ≠ .disarmed → P (s.setRx rx))
    (disarmed : s.lp.rx = .disarmed → P s)
    (error : P ((s.setRx .hunting).countLp (lpReceiveError (s.setRx .hunting).lp)))
    (duplicate : P (((s.setRx .hunting).countLp (lpValidFrame (s.setRx .hunting).lp)).enterFault .dupId))
    (peer : ∀ bytes, headerIdent (byteAt bytes 0) ≠ s.stc.id →
      P (((s.setRx .hunting).countLp (lpValidFrame (s.setRx .hunting).lp)).handOn bytes)) :
    P (s.characterArrives c own completed) := by
  have keep (armed : s.lp.rx ≠ .disarmed) : P s := rx s.lp.rx id armed
  have hunting (armed : s.lp.rx ≠ .disarmed) : P (s.setRx .hunting) :=
    rx _ (fun _ => receiverLegal_of_not_inFrame (by simp [State.setRx])) armed
  have receiveError (armed : s.lp.rx ≠ .disarmed) (own : Bool) : P (s.receiveError own) := by
    cases own
    · exact error
    · exact hunting armed
  have header (armed : s.lp.rx ≠ .disarmed) : P (s.headerArrives c own) := by
    unfold State.headerArrives
    split
    · split
      · next n known => exact rx _ (fun _ => receiverLegal_begun own known) armed
      · exact receiveError armed own
    · exact receiveError armed own
  have validFrame (armed : s.lp.rx ≠ .disarmed) (f : RxFrame) : P ((s.setRx .hunting).validFrame f completed) := by
    unfold State.validFrame
    split
    · split
      · exact hunting armed
      · exact duplicate
    · next other => exact peer f.bytes other
  have body (armed : s.lp.rx ≠ .disarmed) (f : RxFrame) (inFrame : s.lp.rx = .inFrame f) :
      P (s.bodyArrives f c own completed) := by
    unfold State.bodyArrives
    split
    · simp only []
      split
      · unfold State.frameComplete
        split
        · exact validFrame armed _
        · exact receiveError armed _
      · next short =>
        exact rx _ (receiverLegal_append inFrame (by simpa [rxAppend] using short)) armed
    · exact receiveError armed _
  unfold State.characterArrives
  split
  · next h => exact disarmed h
  · next h =>
    split
    · exact header (by simp [h])
    · exact keep (by simp [h])
  · next f h =>
    split
    · exact header (by simp [h])
    · exact body (by simp [h]) f h

/-! ### STC's evaluation (R156) -/

theorem listenWork_keeps {P : State → Prop} {s : State}
    (counts : P (s.setStc { s.stc with listenCount := s.stc.listenCount + 1 }))
    (toLocal : s.standing = .silent → P (s.setStc { s.stc with listenCount := s.stc.listenCount + 1 }).enterLocal)
    (toActive : s.standing ≠ .silent → P (s.setStc { s.stc with listenCount := s.stc.listenCount + 1 }).enterActive) :
    P s.listenWork := by
  unfold State.listenWork
  simp only []
  split
  · split
    · next silent => exact toLocal silent
    · next speaks => exact toActive speaks
  · exact counts

theorem ignitionWork_keeps {P : State → Prop} {s : State}
    (counts : P (s.setStc { s.stc with ignOffCount := ignOffNext s.inp.ign s.stc.ignOffCount }))
    (toLeaving : s.stc.state = .active →
      P (s.setStc { s.stc with ignOffCount := ignOffNext s.inp.ign s.stc.ignOffCount }).enterLeaving)
    (toParked : s.stc.state ≠ .active → s.inp.ign = false →
      P (s.setStc { s.stc with ignOffCount := ignOffNext s.inp.ign s.stc.ignOffCount }).park) :
    P s.ignitionWork := by
  unfold State.ignitionWork
  simp only []
  split
  · next delay =>
    split
    · next active => exact toLeaving active
    · next other =>
      have ign : s.inp.ign = false := by
        cases on : s.inp.ign
        · rfl
        · simp [ignOffNext, on, parkDelayUsed] at delay
      simpa [State.enterParked, ign] using toParked other ign
  · exact counts

theorem leavingWork_keeps {P : State → Prop} {s : State}
    (counts : P (s.setStc { s.stc with leaveCount := s.stc.leaveCount + 1 }))
    (toParked : P (s.setStc { s.stc with leaveCount := s.stc.leaveCount + 1 }).enterParked) : P s.leavingWork := by
  unfold State.leavingWork
  simp only []
  split
  · exact toParked
  · exact counts

theorem enterParked_keeps {P : State → Prop} {s : State} (parks : P s.park) (wakes : P s.park.wake) : P s.enterParked := by
  unfold State.enterParked
  split
  · exact wakes
  · exact parks

theorem parkedWork_keeps {P : State → Prop} {s : State} (stays : P s) (wakes : P s.wake) : P s.parkedWork := by
  unfold State.parkedWork
  split
  · exact wakes
  · exact stays

/-! ### The end of a transaction (R158, R177, R180) -/

theorem transactionEnds_keeps {P : State → Prop} {s : State} (miso : List Byte) (stays : P s)
    (loads : ∀ x, P (s.setLoader x)) (invalid : P s.loadInvalid)
    (valid : ∀ sb lb profile, checksPass sb lb = true →
      P ((s.setLoader Loader.powerOn).putInForce (loadedCfg sb lb profile))) : P (s.transactionEnds miso) := by
  have differs : P s.blockDiffers := by
    unfold State.blockDiffers
    split
    · exact invalid
    · exact loads _
  unfold State.transactionEnds
  simp only []
  split
  · exact stays
  · split
    · exact loads _
    · exact differs
  · split
    · unfold State.bothAccepted
      split
      · next ok => exact valid _ _ _ ok
      · exact invalid
    · exact differs

end Sys2Proof.Paths
end

section
/-! PROOFS. The station state (spec/08): which command can take it where, and that identity and configuration stay (R156 to R169). -/

namespace Sys2Proof.Transitions

open Sys2Proof Sys2Proof.Machine Sys2Proof.Commands Sys2Proof.Paths

/-! ### Entering a station state -/

/-- The station is in a state after, with the identity and the configuration of before. -/
def Enters (state : StationState) (s t : State) : Prop :=
  t.stc.state = state ∧ t.stc.id = s.stc.id ∧ t.cfg = s.cfg

/-- Station state, identity and configuration are as before. -/
def Stays (s t : State) : Prop := Enters s.stc.state s t

theorem stays_of_eq {s t : State} (stc : t.stc = s.stc) (cfg : t.cfg = s.cfg) : Stays s t :=
  ⟨congrArg _ stc, congrArg _ stc, cfg⟩

/-- The changes of state that a command can bring about, by its cause (R156). -/
def TableAllows (i : Instr) : StationState → StationState → Prop
  | .config, .listen | .config, .fault => ∃ miso, i = .spiTransactionEnd miso
  | .listen, .active => ∃ ign, i = .stcEvaluationExpiry ign
  | .listen, .localOnly => ∃ ign, i = .stcEvaluationExpiry ign
  | .active, .localOnly => (∃ read ign, i = .characterReadBack read ign) ∨ ∃ c, i = .characterReceived c
  | .active, .leaving => ∃ ign, i = .stcEvaluationExpiry ign
  | .localOnly, .listen => ∃ c, i = .characterReceived c
  | .localOnly, .parked => ∃ ign, i = .stcEvaluationExpiry ign
  | .leaving, .parked | .leaving, .listen =>
    (∃ ign, i = .stcEvaluationExpiry ign) ∨ ∃ read ign, i = .characterReadBack read ign
  | .parked, .listen => ∃ ign, i = .stcEvaluationExpiry ign
  | .listen, .fault | .active, .fault | .localOnly, .fault | .leaving, .fault => ∃ c, i = .characterReceived c
  | a, b => a = b

/-- A change of the station by a command as the table gives it; the configuration may change in CONFIG alone. -/
def Allowed (i : Instr) (s t : State) : Prop :=
  TableAllows i s.stc.state t.stc.state ∧ (s.stc.state ≠ .config → t.stc.id = s.stc.id ∧ t.cfg = s.cfg)

theorem allowed_of_enters {i : Instr} {b : StationState} {s t : State} (h : Enters b s t)
    (table : TableAllows i s.stc.state b) : Allowed i s t :=
  ⟨h.1 ▸ table, fun _ => h.2⟩

theorem tableAllows_self (i : Instr) (a : StationState) : TableAllows i a a := by
  cases a <;> rfl

theorem allowed_of_stays {i : Instr} {s t : State} (h : Stays s t) : Allowed i s t :=
  allowed_of_enters h (tableAllows_self i _)

/-- What is allowed is allowed whatever happens outside the station controller and the configuration. -/
theorem allowed_congr {i : Instr} {s t s' t' : State} (h : Allowed i s t) (before : Stays s s') (after : Stays t t') :
    Allowed i s' t' := by
  obtain ⟨state, id, cfg⟩ := before
  obtain ⟨state', id', cfg'⟩ := after
  unfold Allowed at *
  rw [state, id, cfg, state', id', cfg']
  exact h

/-! ### The commands that can change the station state -/

theorem transactionEnds_allowed {s : State} (miso : List Byte) (config : s.stc.state = .config) :
    Allowed (.spiTransactionEnd miso) s (s.transactionEnds miso) := by
  apply transactionEnds_keeps (P := Allowed _ s) miso
  · exact allowed_of_stays ⟨rfl, rfl, rfl⟩
  · exact fun x => allowed_of_stays (stays_of_eq rfl rfl)
  · exact allowed_of_enters (b := .fault) ⟨rfl, rfl, rfl⟩ (by rw [config]; exact ⟨miso, rfl⟩)
  · intro sb lb profile _
    refine ⟨?_, fun other => absurd config other⟩
    rw [Memory.putInForce_stc, config]
    exact ⟨miso, rfl⟩

theorem countLp_enters (s : State) (lp : Lp) :
    Stays s (s.countLp lp)
      ∨ s.stc.state = .active ∧ Enters .localOnly s (s.countLp lp)
      ∨ s.stc.state = .localOnly ∧ s.standing = .silent ∧ standingOf lp.trouble ≠ .silent
        ∧ Enters .listen s (s.countLp lp) := by
  refine countLp_keeps (P := fun u => Stays s u ∨ s.stc.state = .active ∧ Enters .localOnly s u
    ∨ s.stc.state = .localOnly ∧ s.standing = .silent ∧ standingOf lp.trouble ≠ .silent ∧ Enters .listen s u) ?_ ?_ ?_
  · exact .inl ⟨rfl, rfl, rfl⟩
  · exact fun active _ _ => .inr (.inl ⟨active, rfl, rfl, rfl⟩)
  · exact fun state silent speaks => .inr (.inr ⟨state, silent, speaks, rfl, rfl, rfl⟩)

theorem handOn_stays (s : State) (bytes : List Byte) : Stays s (s.handOn bytes) := by
  refine ⟨?_, ?_, by simp⟩ <;> unfold State.handOn State.warnArrives <;> split <;> (try split) <;> simp

theorem received_allowed {s t : State} (c : Character) (op : operating s.stc.state = true)
    (h : Stays s t ∨ s.stc.state = .active ∧ Enters .localOnly s t ∨ s.stc.state = .localOnly ∧ Enters .listen s t
      ∨ Enters .fault s t) : Allowed (.characterReceived c) s t := by
  obtain stays | ⟨state, enters⟩ | ⟨state, enters⟩ | enters := h
  · exact allowed_of_stays stays
  · exact allowed_of_enters enters (by rw [state]; exact .inr ⟨c, rfl⟩)
  · exact allowed_of_enters enters (by rw [state]; exact ⟨c, rfl⟩)
  · refine allowed_of_enters enters ?_
    cases state : s.stc.state <;> rw [state] at op <;> first | exact ⟨c, rfl⟩ | cases op

theorem characterArrives_allowed {s : State} (c : Character) (own completed : Bool) (op : operating s.stc.state = true) :
    Allowed (.characterReceived c) s (s.characterArrives c own completed) := by
  have counted (lp : Lp) : Stays s ((s.setRx .hunting).countLp lp)
      ∨ s.stc.state = .active ∧ Enters .localOnly s ((s.setRx .hunting).countLp lp)
      ∨ s.stc.state = .localOnly ∧ Enters .listen s ((s.setRx .hunting).countLp lp) := by
    obtain h | h | ⟨state, -, -, h⟩ := countLp_enters (s.setRx .hunting) lp
    · exact .inl h
    · exact .inr (.inl h)
    · exact .inr (.inr ⟨state, h⟩)
  apply characterArrives_keeps (P := Allowed (.characterReceived c) s)
  · exact fun rx _ _ => allowed_of_stays ⟨rfl, rfl, rfl⟩
  · exact fun _ => allowed_of_stays ⟨rfl, rfl, rfl⟩
  · apply received_allowed c op
    obtain h | h | h := counted (lpReceiveError (s.setRx .hunting).lp)
    · exact .inl h
    · exact .inr (.inl h)
    · exact .inr (.inr (.inl h))
  · apply received_allowed c op
    refine .inr (.inr (.inr ⟨rfl, ?_, by simp⟩))
    rw [enterFault_stc]
    obtain ⟨-, id, -⟩ | ⟨-, -, id, -⟩ | ⟨-, -, id, -⟩ := counted (lpValidFrame (s.setRx .hunting).lp) <;> exact id
  · intro bytes _
    refine allowed_congr (received_allowed c op ?_) ⟨rfl, rfl, rfl⟩ (handOn_stays _ bytes)
    obtain h | h | h := counted (lpValidFrame (s.setRx .hunting).lp)
    · exact .inl h
    · exact .inr (.inl h)
    · exact .inr (.inr (.inl h))

/-- PARKED with the ignition on is passed through in one event (R169). -/
theorem enterParked_enters (s : State) : Enters .parked s s.enterParked ∨ Enters .listen s s.enterParked := by
  apply enterParked_keeps (P := fun u => Enters .parked s u ∨ Enters .listen s u)
  · exact .inl ⟨rfl, rfl, rfl⟩
  · exact .inr ⟨by simp, by simp, by simp⟩

theorem leaving_allowed {i : Instr} {s t : State} (leaving : s.stc.state = .leaving)
    (cause : (∃ ign, i = .stcEvaluationExpiry ign) ∨ ∃ read ign, i = .characterReadBack read ign)
    (h : Enters .parked s t ∨ Enters .listen s t) : Allowed i s t := by
  obtain h | h := h <;> exact allowed_of_enters h (by rw [leaving]; exact cause)

theorem leaveReported_allowed {s u : State} {read : Option Character} {ign : Bool} (gone : Bool)
    (h : Stays s u ∨ s.stc.state = .active ∧ Enters .localOnly s u) :
    Allowed (.characterReadBack read ign) s (u.leaveReported gone) := by
  obtain ⟨same, -⟩ | ⟨-, leaving, parks⟩ := leaveReported_cases u gone
  · rw [same]
    obtain h | ⟨state, h⟩ := h
    · exact allowed_of_stays h
    · exact allowed_of_enters h (by rw [state]; exact .inl ⟨read, ign, rfl⟩)
  · obtain h | ⟨-, state, -⟩ := h
    · refine allowed_congr (leaving_allowed (s := u) leaving (.inr ⟨read, ign, rfl⟩) ?_)
        ⟨h.1.symm, h.2.1.symm, h.2.2.symm⟩ ⟨rfl, rfl, rfl⟩
      rw [parks]
      exact enterParked_enters u
    · cases leaving.symm.trans state

theorem attemptFailed_allowed (s : State) (cls : SlotClass) (read : Option Character) (ign : Bool) :
    Allowed (.characterReadBack read ign) s (s.attemptFailed cls) := by
  obtain ⟨same, -⟩ | ⟨h, followUp, noRetry, sending⟩ := attemptFailed_cases s cls
  · rw [same]
    exact allowed_of_stays ⟨rfl, rfl, rfl⟩
  · rw [attemptFailed_of_sending sending]
    have stays : Stays s (settled s cls h followUp noRetry) := stays_of_eq (by simp [settled]) (by simp [settled])
    apply leaveReported_allowed
    split
    · obtain counted | ⟨state, counted⟩ | ⟨-, silent, speaks, -⟩ :=
        countLp_enters (settled s cls h followUp noRetry) (lpRaise 8 (settled s cls h followUp noRetry).lp)
      · exact .inl ⟨counted.1.trans stays.1, counted.2.1.trans stays.2.1, counted.2.2.trans stays.2.2⟩
      · exact .inr ⟨stays.1.symm.trans state, counted.1, counted.2.1.trans stays.2.1, counted.2.2.trans stays.2.2⟩
      · have frozen : lpRaise 8 (settled s cls h followUp noRetry).lp = (settled s cls h followUp noRetry).lp := if_pos silent
        rw [frozen] at speaks
        exact absurd silent speaks
    · exact .inl stays

theorem frameCompleted_allowed (s : State) (cls : SlotClass) (read : Option Character) (ign : Bool) :
    Allowed (.characterReadBack read ign) s (s.frameCompleted cls) := by
  obtain ⟨same, -⟩ | ⟨h, followUp, noRetry, sending⟩ := frameCompleted_cases s cls
  · rw [same]
    exact allowed_of_stays ⟨rfl, rfl, rfl⟩
  · rw [frameCompleted_of_sending sending]
    exact leaveReported_allowed _ (.inl (stays_of_eq (by simp) (by simp)))

theorem readBack_allowed (s : State) (f : TxFrame) (read : Option Character) (ign : Bool) :
    Allowed (.characterReadBack read ign) s (s.readBack f read) := by
  obtain ⟨-, -, h⟩ | ⟨-, -, h⟩ | ⟨-, h⟩ := readBack_cases s f read <;> rw [h]
  · exact allowed_of_stays ⟨rfl, rfl, rfl⟩
  · exact allowed_congr (frameCompleted_allowed (s.setLp (lpFrameEnds .completed read s.lp)) f.cls read ign) ⟨rfl, rfl, rfl⟩
      ⟨rfl, rfl, rfl⟩
  · exact allowed_congr (attemptFailed_allowed (s.setLp (lpFrameEnds .collided read s.lp)) f.cls read ign) ⟨rfl, rfl, rfl⟩
      ⟨rfl, rfl, rfl⟩

theorem stationWork_allowed (s : State) (ign : Bool) : Allowed (.stcEvaluationExpiry ign) s s.stationWork := by
  have by_evaluation {b : StationState} {t : State} (enters : Enters b s t)
      (table : TableAllows (.stcEvaluationExpiry ign) s.stc.state b) := allowed_of_enters enters table
  unfold State.stationWork
  split
  · exact allowed_of_stays ⟨rfl, rfl, rfl⟩
  · exact allowed_of_stays ⟨rfl, rfl, rfl⟩
  · next listen =>
    apply listenWork_keeps (P := Allowed _ s)
    · exact allowed_of_stays ⟨rfl, rfl, rfl⟩
    · exact fun _ => by_evaluation (b := .localOnly) ⟨rfl, rfl, rfl⟩ (by rw [listen]; exact ⟨ign, rfl⟩)
    · exact fun _ => by_evaluation (b := .active) ⟨by simp, by simp, by simp⟩ (by rw [listen]; exact ⟨ign, rfl⟩)
  · next active =>
    apply ignitionWork_keeps (P := Allowed _ s)
    · exact allowed_of_stays ⟨rfl, rfl, rfl⟩
    · exact fun _ => by_evaluation (b := .leaving) ⟨by simp, by simp, by simp⟩ (by rw [active]; exact ⟨ign, rfl⟩)
    · exact fun other => absurd active other
  · next localOnly =>
    apply ignitionWork_keeps (P := Allowed _ s)
    · exact allowed_of_stays ⟨rfl, rfl, rfl⟩
    · exact fun active => absurd (localOnly.symm.trans active) (by simp)
    · exact fun _ _ => by_evaluation (b := .parked) ⟨rfl, rfl, rfl⟩ (by rw [localOnly]; exact ⟨ign, rfl⟩)
  · next leaving =>
    apply leavingWork_keeps (P := Allowed _ s)
    · exact allowed_of_stays ⟨rfl, rfl, rfl⟩
    · exact leaving_allowed leaving (.inl ⟨ign, rfl⟩) (enterParked_enters _)
  · next parked =>
    apply parkedWork_keeps (P := Allowed _ s)
    · exact allowed_of_stays ⟨rfl, rfl, rfl⟩
    · exact by_evaluation (b := .listen) ⟨by simp, by simp, by simp⟩ (by rw [parked]; exact ⟨ign, rfl⟩)

/-! ### Every command -/

theorem warnCountdown_stays (s : State) : Stays s s.warnCountdown := by
  unfold State.warnCountdown
  split <;> exact ⟨rfl, rfl, rfl⟩

/-- The two commands that enter CONFIG from any state (R157). -/
def entersConfig (i : Instr) : Prop := i = .powerOn ∨ i = .resetn

theorem work_allowed {i : Instr} (s : State) (other : ¬entersConfig i) : Allowed i s (work i s) := by
  have same : Allowed i s s := allowed_of_stays ⟨rfl, rfl, rfl⟩
  cases i with
  | powerOn => exact absurd (.inl rfl) other
  | resetn => exact absurd (.inr rfl) other
  | configurationRead straps =>
    simp only [work]
    split
    · next reads => exact ⟨tableAllows_self _ _, fun leaves => absurd reads.1 leaves⟩
    · exact same
  | spiTransactionEnd miso =>
    simp only [work]
    split
    · next config => exact transactionEnds_allowed miso config
    · exact same
  | characterReceived c =>
    simp only [work]
    split
    · next op => exact characterArrives_allowed (s := s.setLp { s.lp with tail := .none }) c _ _ op
    · exact same
  | characterReadBack read ign =>
    simp only [work]
    split
    · exact readBack_allowed (s.latchIgn ign) _ read ign
    · exact same
  | stcEvaluationExpiry ign =>
    have stays := warnCountdown_stays (s.latchIgn ign)
    exact allowed_congr (stationWork_allowed (s.latchIgn ign).warnCountdown ign)
      ⟨stays.1.symm, stays.2.1.symm, stays.2.2.symm⟩ ⟨rfl, rfl, rfl⟩
  | parkTimerTick =>
    simp only [work]
    split <;> exact allowed_of_stays ⟨rfl, rfl, rfl⟩
  | _ =>
    refine allowed_of_stays (stays_of_eq ?_ ?_) <;> simp only [work] <;> (try split) <;> simp

/-- Settles O50: each command's work changes the station as the table allows it for that command. -/
theorem stationTransitions : Obligations.StationTransitions := by
  intro i s t answers
  rw [eq_of_exec_eq_next answers]
  refine ⟨?_, fun other => work_allowed s other⟩
  rintro (rfl | rfl) <;> rfl

end Sys2Proof.Transitions
end

section
/-! PROOFS. The commands that reach the line by an alert at most: the evaluations, the ageing and the pulses. -/

namespace Sys2Proof.Line

open Sys2Proof Sys2Proof.Machine Sys2Proof.Commands Sys2Proof.Paths

/-- STC, STX and LP are the same in two states. -/
def SameLine (s t : State) : Prop := t.stc = s.stc ∧ t.stx = s.stx ∧ t.lp = s.lp

theorem sameLine_refl (s : State) : SameLine s s := ⟨rfl, rfl, rfl⟩

theorem sameLine_trans {s t u : State} (h : SameLine s t) (h' : SameLine t u) : SameLine s u :=
  ⟨h'.1.trans h.1, h'.2.1.trans h.2.1, h'.2.2.trans h.2.2⟩

theorem putStx_sameLine {s t : State} (h : SameLine s t) (x : Stx) : SameLine (s.putStx x) (t.putStx x) := by
  obtain ⟨stc, stx, lp⟩ := h
  simp [SameLine, putStx_eq, stc, stx, lp]

theorem fillUrgent_sameLine {s t : State} (h : SameLine s t) : SameLine s.fillUrgent t.fillUrgent := by
  obtain ⟨stc, stx, lp⟩ := h
  unfold State.fillUrgent
  rw [stc, stx]
  split
  · exact putStx_sameLine ⟨stc, stx, lp⟩ _
  · exact ⟨stc, stx, lp⟩

theorem offerAlert_sameLine {s t : State} (h : SameLine s t) (a : Alert) : SameLine (s.offerAlert a) (t.offerAlert a) := by
  obtain ⟨stc, stx, lp⟩ := h
  unfold State.offerAlert
  rw [stc, stx]
  split
  · exact fillUrgent_sameLine ⟨stc, rfl, lp⟩
  · exact ⟨stc, stx, lp⟩

theorem offer_sameLine {s t : State} (h : SameLine s t) (a : Option Alert) : SameLine (s.offer a) (t.offer a) := by
  cases a with
  | none => exact h
  | some a => exact offerAlert_sameLine h a

/-! ### The alerts of the evaluations -/

theorem planNow_line (s : State) : ∃ a, SameLine (s.offer a) s.planNow := by
  have planned (pe : Pe) : SameLine s (s.setPe pe) := ⟨rfl, rfl, rfl⟩
  exact ⟨_, offer_sameLine (planned _) _⟩

theorem evaluateDemand_line (s : State) : ∃ a b, SameLine ((s.offer a).offer b) s.evaluateDemand := by
  have evaluated (du : Du) : SameLine s (s.setDu du) := ⟨rfl, rfl, rfl⟩
  exact ⟨_, _, offer_sameLine (offer_sameLine (evaluated _) _) _⟩

theorem evaluateAdhesion_line (s : State) : ∃ a, SameLine (s.offer a) s.evaluateAdhesion := by
  have evaluated (am : Am) : SameLine s (if s.role = .retarder then (s.setAm am).formCapacity else s.setAm am) := by
    split <;> exact ⟨rfl, rfl, rfl⟩
  exact ⟨_, offer_sameLine (evaluated _) _⟩

theorem peerArrives_line (s : State) (id : Ident) (seq : BitVec 8) (stmt : Statement) :
    ∃ a, SameLine (s.offer a) (s.peerArrives id seq stmt) := by
  have arrived (pt : PeerTable) : SameLine s (s.setPt pt) := ⟨rfl, rfl, rfl⟩
  exact ⟨_, offer_sameLine (arrived _) _⟩

theorem degrade_line (s : State) (cause : DegradedCause) : ∃ a, SameLine (s.offerAlert a) (s.degrade cause) := by
  have degraded (sc : Sc) : SameLine s (s.setSc sc) := ⟨rfl, rfl, rfl⟩
  exact ⟨_, offerAlert_sameLine (degraded _) _⟩

theorem feedbackStage_line (s : State) : ∃ a, SameLine (s.offer a) s.feedbackStage := by
  unfold State.feedbackStage
  split
  · obtain ⟨a, line⟩ := degrade_line s (rangeFault s)
    exact ⟨some a, line⟩
  · exact ⟨none, sameLine_refl s⟩

theorem formCapacity_line (s : State) : SameLine s s.formCapacity := ⟨rfl, rfl, rfl⟩

theorem supervisionStage_line (s : State) : ∃ a, SameLine (s.offer a) s.supervisionStage := by
  have counted (sc : Sc) : SameLine s (s.setSc sc) := ⟨rfl, rfl, rfl⟩
  unfold State.supervisionStage
  split
  · exact ⟨none, counted _⟩
  · simp only []
    split
    · obtain ⟨a, line⟩ := degrade_line (s.setSc _) .tolerance
      exact ⟨some a, sameLine_trans (sameLine_trans (offerAlert_sameLine (counted _) a) line) (formCapacity_line _)⟩
    · exact ⟨none, counted _⟩

theorem sinkStages_line (s : State) : ∃ a b, SameLine ((s.offer a).offer b) s.sinkStages := by
  have before : SameLine s s.closeWindows.temperatureStage := by simp [SameLine]
  obtain ⟨a, fed⟩ := feedbackStage_line s.closeWindows.temperatureStage
  obtain ⟨b, supervised⟩ := supervisionStage_line s.closeWindows.temperatureStage.feedbackStage.formCapacity.takeStage
  have taken (u : State) : SameLine u u.formCapacity.takeStage := ⟨rfl, rfl, rfl⟩
  have commanded (u : State) : SameLine u u.commandStage := ⟨rfl, rfl, rfl⟩
  have measured := sameLine_trans (sameLine_trans (offer_sameLine before a) fed) (taken _)
  exact ⟨a, b, sameLine_trans (sameLine_trans (offer_sameLine measured b) supervised) (commanded _)⟩

/-! ### The commands -/

/-- The commands that reach STX by an alert alone, and STC and LP not at all. -/
def offersAtMost : Instr → Bool
  | .peEvaluationExpiry | .duEvaluationExpiry _ _ _ | .ageExpiry | .sinkExpiry _ _ _ | .thermalExpiry | .amEvaluationExpiry
  | .engPulse | .wheelPulse => true
  | _ => false

theorem work_line {i : Instr} (h : offersAtMost i = true) (s : State) :
    ∃ a b, SameLine ((s.offer a).offer b) (work i s) := by
  have one {t : State} (h : ∃ a, SameLine (s.offer a) t) : ∃ a b, SameLine ((s.offer a).offer b) t :=
    ⟨h.choose, none, h.choose_spec⟩
  have none {t : State} (h : SameLine s t) : ∃ a b, SameLine ((s.offer a).offer b) t := ⟨none, none, h⟩
  cases i with
  | peEvaluationExpiry =>
    simp only [work]
    split
    · exact one (planNow_line s)
    · exact none (sameLine_refl s)
  | duEvaluationExpiry pa pb stk =>
    simp only [work]
    split
    · obtain ⟨a, b, line⟩ := evaluateDemand_line (s.latchDriver pa pb stk)
      have latched : SameLine s (s.latchDriver pa pb stk) := ⟨rfl, rfl, rfl⟩
      exact ⟨a, b, sameLine_trans (offer_sameLine (offer_sameLine latched a) b) line⟩
    · exact none ⟨rfl, rfl, rfl⟩
  | ageExpiry => exact none ⟨rfl, rfl, rfl⟩
  | sinkExpiry fb temp pos =>
    simp only [work]
    split
    · obtain ⟨a, b, line⟩ := sinkStages_line (s.latchSink fb temp pos)
      have latched : SameLine s (s.latchSink fb temp pos) := ⟨rfl, rfl, rfl⟩
      exact ⟨a, b, sameLine_trans (offer_sameLine (offer_sameLine latched a) b) line⟩
    · exact none ⟨rfl, rfl, rfl⟩
  | thermalExpiry =>
    simp only [work]
    split <;> exact none ⟨rfl, rfl, rfl⟩
  | amEvaluationExpiry =>
    simp only [work]
    split
    · exact one (evaluateAdhesion_line s)
    · exact none (sameLine_refl s)
  | engPulse =>
    simp only [work]
    split <;> exact none ⟨rfl, rfl, rfl⟩
  | wheelPulse =>
    simp only [work]
    split <;> exact none ⟨rfl, rfl, rfl⟩
  | _ => cases h

/-- What STC, STX and LP decide and every alert keeps is kept by these commands. -/
theorem work_keeps_of_offersAtMost {P : State → Prop} (congr : ∀ s t, SameLine s t → P s → P t)
    (offers : ∀ s a, P s → P (s.offerAlert a)) {i : Instr} (offersOnly : offersAtMost i = true) {s : State} (h : P s) :
    P (work i s) := by
  have offer (a : Option Alert) {s : State} (h : P s) : P (s.offer a) := by
    cases a with
    | none => exact h
    | some a => exact offers s a h
  obtain ⟨a, b, line⟩ := work_line offersOnly s
  exact congr _ _ line (offer b (offer a h))

/-- Handing a statement on offers an alert at most, and sets the warn hold at most. -/
theorem handOn_keeps {P : State → Prop} (congr : ∀ s t, SameLine s t → P s → P t) (offers : ∀ s a, P s → P (s.offerAlert a))
    (warns : ∀ s n, P s → P (s.setStc { s.stc with warnHold := n })) {s : State} (h : P s) (bytes : List Byte) :
    P (s.handOn bytes) := by
  have arrived : P (s.peerArrives (headerIdent (byteAt bytes 0)) (byteAt bytes 1) (statementOf bytes)) := by
    obtain ⟨a, line⟩ := peerArrives_line s (headerIdent (byteAt bytes 0)) (byteAt bytes 1) (statementOf bytes)
    refine congr _ _ line ?_
    cases a with
    | none => exact h
    | some a => exact offers s a h
  unfold State.handOn State.warnArrives
  split
  · split
    · exact warns _ _ arrived
    · exact arrived
  all_goals exact arrived

/-- The commands one by one, for what STC, STX and LP decide: the evaluations by their alerts, each other command by the operation
it comes down to. -/
theorem work_keeps_of_line {P : State → Prop} (congr : ∀ s t, SameLine s t → P s → P t)
    (offers : ∀ s a, P s → P (s.offerAlert a)) {s : State} (h : P s) (config : P s.enterConfig)
    (reads : ∀ id, s.stc.state = .config → P (s.setStc { s.stc with id := id }))
    (ends : ∀ miso, s.stc.state = .config → P (s.transactionEnds miso))
    (forms : ∀ cls stmt, cls ≠ .urgent → s.stc.state = .active → P (s.enterSlot cls stmt))
    (evaluates : ∀ ign, P (s.latchIgn ign).warnCountdown.stationWork)
    (ticks : ∀ n, P (s.setStc { s.stc with parkTimer := n }))
    (frees : operating s.stc.state = true → P (s.setLp (lpLineFree s.lp)))
    (starts : ∀ elapsed, P (s.tryStart elapsed))
    (readsBack : ∀ f read ign, s.lp.tx = some f → P ((s.latchIgn ign).readBack f read))
    (receives : ∀ c own completed, operating s.stc.state = true →
      P ((s.setLp { s.lp with tail := .none }).characterArrives c own completed))
    (startBit : operating s.stc.state = true → P (s.setLp { s.lp with line := .busy, tail := .none })) (i : Instr) :
    P (work i s) := by
  by_cases evaluation : offersAtMost i = true
  · exact work_keeps_of_offersAtMost congr offers evaluation h
  have latched (inp : InPins) : P (s.setInp inp) := congr s _ ⟨rfl, rfl, rfl⟩ h
  cases i with
  | powerOn => exact config
  | resetn => exact congr s.enterConfig _ ⟨rfl, rfl, rfl⟩ config
  | configurationRead straps =>
    simp only [work]
    split
    · next idle => exact congr (s.setStc { s.stc with id := straps.toFin }) _ ⟨rfl, rfl, rfl⟩ (reads straps.toFin idle.1)
    · exact latched _
  | spiTransactionEnd miso =>
    simp only [work]
    split
    · next config => exact ends miso config
    · exact h
  | standingExpiry =>
    simp only [work]
    split
    · next active => exact forms _ _ (by simp) active
    · exact h
  | demandExpiry =>
    simp only [work]
    split
    · next active => exact forms _ _ (by simp) active.1
    · exact h
  | stcEvaluationExpiry ign => exact evaluates ign
  | parkTimerTick =>
    simp only [work]
    split
    · exact ticks _
    · exact h
  | lineFreePoint quiet =>
    simp only [work]
    split
    · next busy => exact frees busy.1
    · exact h
  | accessWaitEnd elapsed => exact starts elapsed
  | characterReadBack read ign =>
    simp only [work]
    split
    · next f sends => exact readsBack f read ign sends
    · exact latched _
  | characterReceived c =>
    simp only [work]
    split
    · next op => exact receives c _ _ op
    · exact h
  | startBit =>
    simp only [work]
    split
    · next op => exact startBit op
    · exact h
  | _ => exact absurd rfl evaluation

end Sys2Proof.Line
end

section
/-! PROOFS. The alert queue (spec/04, R84 to R86): what an offered alert does to it, and that every step keeps it legal. -/

namespace Sys2Proof.Alerts

open Sys2Proof Sys2Proof.Machine Sys2Proof.Commands Sys2Proof.Paths Sys2Proof.Line

/-! ### Taking an alert into the queue (R84) -/

theorem sameAlert_iff (a b : Alert) : sameAlert a b = true ↔ alertKey b = alertKey a := by
  simp only [sameAlert, alertKey, Bool.and_eq_true, beq_iff_eq, Prod.mk.injEq]
  exact and_congr eq_comm eq_comm

theorem any_sameAlert_iff (a : Alert) (q : List Alert) : q.any (sameAlert a) = true ↔ ∃ b ∈ q, alertKey b = alertKey a := by
  simp [List.any_eq_true, sameAlert_iff]

/-- An entry with the key of the alert takes its detail, in place. -/
theorem enqueue_of_mem {a : Alert} {q : List Alert} (h : ∃ b ∈ q, alertKey b = alertKey a) :
    enqueue a q = q.map fun b => if sameAlert a b then { b with detail := a.detail } else b :=
  if_pos ((any_sameAlert_iff a q).mpr h)

theorem enqueue_of_room {a : Alert} {q : List Alert} (new : ¬∃ b ∈ q, alertKey b = alertKey a) (room : q.length < 4) :
    enqueue a q = q ++ [a] :=
  (if_neg (mt (any_sameAlert_iff a q).mp new)).trans (if_pos room)

theorem enqueue_of_full {a : Alert} {q : List Alert} (new : ¬∃ b ∈ q, alertKey b = alertKey a) (full : 4 ≤ q.length) :
    enqueue a q = q :=
  (if_neg (mt (any_sameAlert_iff a q).mp new)).trans (if_neg (Nat.not_lt.mpr full))

/-- At most 4 entries, no two with the same key (R84). -/
def QueueBounded (q : List Alert) : Prop := q.length ≤ 4 ∧ (q.map alertKey).Nodup

theorem queueBounded_nil : QueueBounded [] := ⟨Nat.zero_le _, List.nodup_nil⟩

theorem queueBounded_enqueue {q : List Alert} (a : Alert) (h : QueueBounded q) : QueueBounded (enqueue a q) := by
  obtain ⟨few, distinct⟩ := h
  by_cases known : ∃ b ∈ q, alertKey b = alertKey a
  · have keys : (q.map fun b => if sameAlert a b then { b with detail := a.detail } else b).map alertKey = q.map alertKey := by
      rw [List.map_map]
      refine List.map_congr_left fun b _ => ?_
      simp only [Function.comp_apply]
      split <;> rfl
    rw [enqueue_of_mem known]
    exact ⟨by simpa using few, keys ▸ distinct⟩
  · by_cases room : q.length < 4
    · rw [enqueue_of_room known room]
      refine ⟨by simpa using room, ?_⟩
      rw [List.map_append, List.nodup_append]
      refine ⟨distinct, by simp, fun x hx y hy => ?_⟩
      obtain ⟨b, hb, rfl⟩ := List.mem_map.mp hx
      obtain rfl : y = alertKey a := by simpa using hy
      exact fun same => known ⟨b, hb, same⟩
    · rw [enqueue_of_full known (Nat.not_lt.mp room)]
      exact ⟨few, distinct⟩

/-! ### The legal queue -/

/-- A queue as it may stand before the urgent slot is filled: bounded, and empty where no alert is taken. -/
def QueueFits (s : State) : Prop :=
  QueueBounded s.stx.queue ∧ (alertsTaken s.stc.state = false → s.stx.queue = [])

theorem alertQueueLegal_iff (s : State) :
    AlertQueueLegal s ↔ QueueFits s ∧ (s.stc.state = .active → s.stx.urgent = .empty → s.stx.queue = []) := by
  simp only [AlertQueueLegal, QueueFits, QueueBounded, and_assoc]

theorem queueFits_of_legal {s : State} (h : AlertQueueLegal s) : QueueFits s := ((alertQueueLegal_iff s).mp h).1

theorem legal_of_queue_nil {s : State} (h : s.stx.queue = []) : AlertQueueLegal s :=
  (alertQueueLegal_iff s).mpr ⟨⟨h ▸ queueBounded_nil, fun _ => h⟩, fun _ _ => h⟩

theorem legal_congr {s t : State} (state : t.stc.state = s.stc.state) (urgent : t.stx.urgent = s.stx.urgent)
    (queue : t.stx.queue = s.stx.queue) (h : AlertQueueLegal s) : AlertQueueLegal t := by
  unfold AlertQueueLegal at *
  rw [state, urgent, queue]
  exact h

/-- Filling the urgent slot makes a fitting queue legal (R86). -/
theorem legal_fillUrgent {s : State} (h : QueueFits s) : AlertQueueLegal s.fillUrgent := by
  obtain ⟨⟨few, distinct⟩, none_taken⟩ := h
  by_cases moves : s.stc.state = .active ∧ s.stx.urgent = .empty ∧ s.stx.queue ≠ []
  · obtain ⟨active, empty, nonempty⟩ := moves
    obtain ⟨a, rest, queue⟩ := List.exists_cons_of_ne_nil nonempty
    have filled : s.fillUrgent = s.putStx { s.stx with urgent := .pending (newlyHeld (.alert a)), queue := rest } := by
      unfold State.fillUrgent
      simp only [active, empty, queue]
    rw [queue] at few distinct
    rw [filled, alertQueueLegal_iff]
    refine ⟨⟨?_, ?_⟩, ?_⟩
    · rw [putStx_stx]
      exact ⟨Nat.le_of_succ_le few, (List.nodup_cons.mp distinct).2⟩
    · simp [active, alertsTaken]
    · simp
  · have unfilled : s.fillUrgent = s := by
      obtain h | ⟨active, empty, a, rest, queue, -⟩ := fillUrgent_cases s
      · exact h
      · exact absurd ⟨active, empty, by simp [queue]⟩ moves
    rw [unfilled, alertQueueLegal_iff]
    refine ⟨⟨⟨few, distinct⟩, none_taken⟩, fun active empty => ?_⟩
    by_contra nonempty
    exact moves ⟨active, empty, nonempty⟩

theorem legal_offerAlert (s : State) (a : Alert) (h : AlertQueueLegal s) : AlertQueueLegal (s.offerAlert a) := by
  unfold State.offerAlert
  split
  · next taken =>
    refine legal_fillUrgent ⟨queueBounded_enqueue a (queueFits_of_legal h).1, fun none_taken => ?_⟩
    exact absurd (none_taken.symm.trans taken) (by simp)
  · exact h

/-! ### The entries to the station states -/

theorem legal_enterListen {s : State} (h : AlertQueueLegal s) : AlertQueueLegal s.enterListen :=
  (alertQueueLegal_iff _).mpr ⟨⟨(queueFits_of_legal h).1, by simp [alertsTaken]⟩, by simp⟩

theorem legal_enterActive {s : State} (h : AlertQueueLegal s) : AlertQueueLegal s.enterActive := by
  refine legal_fillUrgent ⟨(queueFits_of_legal h).1, ?_⟩
  simp [alertsTaken]

theorem legal_enterLocal (s : State) : AlertQueueLegal s.enterLocal := legal_of_queue_nil rfl

theorem legal_enterLeaving (s : State) : AlertQueueLegal s.enterLeaving :=
  legal_of_queue_nil (by simp [State.enterLeaving, stxLeaving])

theorem legal_wake {s : State} (h : AlertQueueLegal s) : AlertQueueLegal s.wake :=
  (alertQueueLegal_iff _).mpr ⟨⟨by simpa using (queueFits_of_legal h).1, by simp [alertsTaken]⟩, by simp⟩

theorem legal_enterParked (s : State) : AlertQueueLegal s.enterParked :=
  enterParked_keeps (P := AlertQueueLegal) (legal_of_queue_nil rfl) (legal_wake (legal_of_queue_nil rfl))

theorem legal_countLp {s : State} (lp : Lp) (h : AlertQueueLegal s) : AlertQueueLegal (s.countLp lp) :=
  countLp_keeps (P := AlertQueueLegal) h (fun _ _ _ => legal_enterLocal _) fun _ _ _ => legal_enterListen h

theorem legal_leaveReported {s : State} (gone : Bool) (h : AlertQueueLegal s) : AlertQueueLegal (s.leaveReported gone) := by
  obtain ⟨same, -⟩ | ⟨-, -, parks⟩ := leaveReported_cases s gone
  · exact same.symm ▸ h
  · exact parks ▸ legal_enterParked s

/-! ### The commands -/

theorem queueFits_putStx_withSlot {s : State} (cls : SlotClass) (slot : Slot) (h : QueueFits s) :
    QueueFits (s.putStx (withSlot s.stx cls slot)) := by
  simpa [QueueFits] using h

theorem legal_attemptFailed {s : State} (cls : SlotClass) (h : AlertQueueLegal s) : AlertQueueLegal (s.attemptFailed cls) := by
  obtain ⟨same, -⟩ | ⟨held, followUp, noRetry, sending⟩ := attemptFailed_cases s cls
  · exact same.symm ▸ h
  · have refilled : AlertQueueLegal (settled s cls held followUp noRetry) :=
      legal_fillUrgent (queueFits_putStx_withSlot cls _ (queueFits_of_legal h))
    rw [attemptFailed_of_sending sending]
    apply legal_leaveReported
    split
    · exact legal_countLp _ refilled
    · exact refilled

theorem legal_frameCompleted {s : State} (cls : SlotClass) (h : AlertQueueLegal s) :
    AlertQueueLegal (s.frameCompleted cls) := by
  obtain ⟨same, -⟩ | ⟨held, followUp, noRetry, sending⟩ := frameCompleted_cases s cls
  · exact same.symm ▸ h
  · rw [frameCompleted_of_sending sending]
    refine legal_leaveReported _ (legal_fillUrgent ?_)
    exact queueFits_putStx_withSlot (s := s.setLp (lpLower s.lp)) cls _ (queueFits_of_legal h)

theorem legal_readBack {s : State} (f : TxFrame) (read : Option Character) (h : AlertQueueLegal s) :
    AlertQueueLegal (s.readBack f read) := by
  obtain ⟨-, -, next⟩ | ⟨-, -, completed⟩ | ⟨-, collided⟩ := readBack_cases s f read
  · exact next ▸ h
  · exact completed ▸ legal_frameCompleted f.cls (legal_congr rfl rfl rfl h)
  · exact collided ▸ legal_attemptFailed f.cls (legal_congr rfl rfl rfl h)

/-- The most urgent PENDING slot is PENDING. -/
theorem slotOf_of_mostUrgent {x : Stx} {cls : SlotClass} {h : Held} (most : mostUrgent x = some (cls, h)) :
    slotOf x cls = .pending h := by
  unfold mostUrgent at most
  split at most <;> simp only [Option.some.injEq, Prod.mk.injEq, reduceCtorEq] at most <;>
    (obtain ⟨rfl, rfl⟩ := most; assumption)

theorem legal_tryStart {s : State} (elapsed : Nat) (h : AlertQueueLegal s) : AlertQueueLegal (s.tryStart elapsed) := by
  unfold State.tryStart
  split
  · next cls held most =>
    split
    · obtain ⟨⟨bounded, none_taken⟩, active⟩ := (alertQueueLegal_iff s).mp h
      rw [alertQueueLegal_iff]
      refine ⟨⟨by simpa [State.startFrame] using bounded, by simpa [State.startFrame] using none_taken⟩, ?_⟩
      cases cls with
      | urgent => simp [State.startFrame, withSlot]
      | demand => exact active
      | standing => exact active
    · exact h
  · exact h

theorem legal_characterArrives {s : State} (c : Character) (own completed : Bool) (h : AlertQueueLegal s) :
    AlertQueueLegal (s.characterArrives c own completed) := by
  apply characterArrives_keeps (P := AlertQueueLegal)
  · exact fun _ _ _ => h
  · exact fun _ => h
  · exact legal_countLp (s := s.setRx .hunting) _ h
  · exact legal_of_queue_nil rfl
  · intro bytes _
    exact handOn_keeps (P := AlertQueueLegal)
      (fun s t line => legal_congr (congrArg _ line.1) (congrArg _ line.2.1) (congrArg _ line.2.1)) legal_offerAlert
      (fun _ _ => id) (legal_countLp (s := s.setRx .hunting) _ h) bytes

theorem legal_enterSlot {s : State} {cls : SlotClass} (stmt : Statement) (other : cls ≠ .urgent) (h : AlertQueueLegal s) :
    AlertQueueLegal (s.enterSlot cls stmt) := by
  refine legal_congr (by simp) ?_ (by simp [State.enterSlot]) h
  rw [State.enterSlot, putStx_stx]
  exact slotOf_withSlot_ne s.stx (slotEnter stmt (slotOf s.stx cls)) other.symm

theorem legal_stationWork {s : State} (h : AlertQueueLegal s) : AlertQueueLegal s.stationWork := by
  unfold State.stationWork
  split
  · exact h
  · exact h
  · exact listenWork_keeps (P := AlertQueueLegal) h (fun _ => legal_enterLocal _) fun _ => legal_enterActive h
  · exact ignitionWork_keeps (P := AlertQueueLegal) h (fun _ => legal_enterLeaving _) fun _ _ => legal_of_queue_nil rfl
  · exact ignitionWork_keeps (P := AlertQueueLegal) h (fun _ => legal_enterLeaving _) fun _ _ => legal_of_queue_nil rfl
  · exact leavingWork_keeps (P := AlertQueueLegal) h (legal_enterParked _)
  · exact parkedWork_keeps (P := AlertQueueLegal) h (legal_wake h)

theorem legal_transactionEnds {s : State} (miso : List Byte) (h : AlertQueueLegal s) :
    AlertQueueLegal (s.transactionEnds miso) := by
  apply transactionEnds_keeps (P := AlertQueueLegal) miso h
  · exact fun _ => h
  · exact legal_of_queue_nil rfl
  · intro sb lb profile _
    rw [State.putInForce]
    exact legal_enterListen (legal_congr (by simp) (by simp) (by simp) h)

theorem legal_warnCountdown (ign : Bool) {s : State} (h : AlertQueueLegal s) :
    AlertQueueLegal (s.latchIgn ign).warnCountdown :=
  legal_congr (Transitions.warnCountdown_stays (s.latchIgn ign)).1 (by simp) (by simp) h

theorem work_keeps_alertQueueLegal (i : Instr) (s : State) (h : AlertQueueLegal s) : AlertQueueLegal (work i s) :=
  work_keeps_of_line (P := AlertQueueLegal)
    (congr := fun _ _ line => legal_congr (congrArg _ line.1) (congrArg _ line.2.1) (congrArg _ line.2.1))
    (offers := legal_offerAlert) h
    (config := legal_of_queue_nil rfl)
    (reads := fun _ _ => h)
    (ends := fun miso _ => legal_transactionEnds miso h)
    (forms := fun _ stmt other _ => legal_enterSlot stmt other h)
    (evaluates := fun ign => legal_stationWork (legal_warnCountdown ign h))
    (ticks := fun _ => h)
    (frees := fun _ => h)
    (starts := fun elapsed => legal_tryStart elapsed h)
    (readsBack := fun f read ign _ => legal_readBack (s := s.latchIgn ign) f read h)
    (receives := fun c own completed _ => legal_characterArrives (s := s.setLp { s.lp with tail := .none }) c own completed h)
    (startBit := fun _ => h) i

/-- Settles O52: every command's work keeps the queue legal. -/
theorem alertQueueStaysLegal : Obligations.AlertQueueStaysLegal :=
  fun _ _ => step_keeps (fun _ => id) (fun _ _ => id) work_keeps_alertQueueLegal

end Sys2Proof.Alerts
end

section
/-! PROOFS. One frame at a time (spec/04, R81, R83, R90): the frame under way is that of the one slot that is SENDING. -/

namespace Sys2Proof.Frames

open Sys2Proof Sys2Proof.Machine Sys2Proof.Commands Sys2Proof.Paths Sys2Proof.Line

/-! ### Slots and the frame under way -/

/-- Every slot stands to the frame under way as the rules have it. -/
def SlotsMatch (id : Ident) (tx : Option TxFrame) (x : Stx) : Prop := ∀ cls, slotMatches id tx cls (slotOf x cls)

/-- What stood to a frame as the rules have it still does after the change of a slot. -/
def SlotKeeps (a b : Slot) : Prop := ∀ id tx cls, slotMatches id tx cls a → slotMatches id tx cls b

theorem slotKeeps_refl (a : Slot) : SlotKeeps a a := fun _ _ _ => id

theorem slotKeeps_slotEnter (stmt : Statement) (a : Slot) : SlotKeeps a (slotEnter stmt a) := by
  intro id tx cls h
  cases a with
  | empty => exact ⟨h, Nat.zero_le _⟩
  | pending held => exact ⟨h.1, Nat.zero_le _⟩
  | sending held followUp noRetry => exact h

theorem slotKeeps_slotCleared (a : Slot) : SlotKeeps a (slotCleared a) := by
  intro id tx cls h
  cases a with
  | empty => exact h
  | pending held => exact h.1
  | sending held followUp noRetry => exact h

theorem slotsMatch_withSlot {id : Ident} {tx : Option TxFrame} {x : Stx} {cls : SlotClass} {slot : Slot}
    (new : slotMatches id tx cls slot) (others : ∀ d, d ≠ cls → slotMatches id tx d (slotOf x d)) :
    SlotsMatch id tx (withSlot x cls slot) := by
  intro d
  by_cases same : d = cls
  · subst same
    rwa [slotOf_withSlot_self]
  · rw [slotOf_withSlot_ne x slot same]
    exact others d same

/-- A slot that is not SENDING is none of the frame's business. -/
theorem slotMatches_of_other_class {id : Ident} {tx tx' : Option TxFrame} {cls : SlotClass} {slot : Slot}
    (h : slotMatches id tx cls slot) (notSent : ∀ f, tx = some f → f.cls ≠ cls) (other : ∀ f, tx' = some f → f.cls ≠ cls) :
    slotMatches id tx' cls slot := by
  cases slot with
  | empty => exact other
  | pending held => exact ⟨other, h.2⟩
  | sending held followUp noRetry =>
    obtain ⟨-, f, n, sent, ofClass, -⟩ := h
    exact absurd ofClass (notSent f sent)

/-- With nothing under way no slot is SENDING, so the identity is of no account. -/
theorem slotsMatch_none_any_id {id id' : Ident} {x : Stx} (h : SlotsMatch id none x) : SlotsMatch id' none x := by
  intro cls
  have matched := h cls
  cases slot : slotOf x cls with
  | sending held followUp noRetry =>
    rw [slot] at matched
    obtain ⟨-, f, n, sent, -⟩ := matched
    cases sent
  | _ => rwa [slot] at matched

theorem slotsMatch_map {id : Ident} {tx : Option TxFrame} {x y : Stx} (h : SlotsMatch id tx x)
    (keeps : ∀ cls, SlotKeeps (slotOf x cls) (slotOf y cls)) : SlotsMatch id tx y :=
  fun cls => keeps cls id tx cls (h cls)

/-! ### The invariant -/

theorem oneFrame_iff (s : State) : OneFrame s ↔ SlotsMatch s.stc.id s.lp.tx s.stx ∧ (quiet s → s.lp.tx = none) := Iff.rfl

theorem oneFrame_congr {s t : State} (id : t.stc.id = s.stc.id) (state : t.stc.state = s.stc.state) (tx : t.lp.tx = s.lp.tx)
    (stx : t.stx = s.stx) (h : OneFrame s) : OneFrame t := by
  unfold OneFrame quiet at *
  rw [id, state, tx, stx]
  exact h

theorem oneFrame_of_operating {s : State} (op : operating s.stc.state = true) (h : SlotsMatch s.stc.id s.lp.tx s.stx) :
    OneFrame s :=
  ⟨h, fun quiet => absurd (quiet.symm.trans op) (by simp)⟩

theorem oneFrame_of_no_frame {s : State} (tx : s.lp.tx = none) (h : SlotsMatch s.stc.id none s.stx) : OneFrame s :=
  ⟨tx.symm ▸ h, fun _ => tx⟩

theorem slotsMatch_empty (id : Ident) {x : Stx} (empty : ∀ cls, slotOf x cls = .empty) : SlotsMatch id none x := by
  intro cls
  rw [empty cls]
  exact fun f none => by cases none

/-- Every slot EMPTY and nothing under way. -/
theorem oneFrame_of_empty {s : State} (tx : s.lp.tx = none) (empty : ∀ cls, slotOf s.stx cls = .empty) : OneFrame s :=
  oneFrame_of_no_frame tx (slotsMatch_empty _ empty)

theorem oneFrame_putStx {s : State} {x : Stx} (h : OneFrame s) (keeps : ∀ cls, SlotKeeps (slotOf s.stx cls) (slotOf x cls)) :
    OneFrame (s.putStx x) := by
  have tx := (putStx_lp_kept s x).2.1
  rw [oneFrame_iff, putStx_stc, putStx_stx, tx]
  exact ⟨slotsMatch_map h.1 keeps, fun quiet => h.2 (by simpa [Machine.quiet] using quiet)⟩

theorem oneFrame_fillUrgent {s : State} (h : OneFrame s) : OneFrame s.fillUrgent := by
  obtain same | ⟨-, empty, a, rest, -, moves⟩ := fillUrgent_cases s
  · exact same.symm ▸ h
  · rw [moves]
    refine oneFrame_putStx h fun cls => ?_
    cases cls with
    | urgent =>
      rw [show slotOf s.stx .urgent = .empty from empty]
      exact slotKeeps_slotEnter _ .empty
    | demand => exact slotKeeps_refl _
    | standing => exact slotKeeps_refl _

theorem oneFrame_offerAlert (s : State) (a : Alert) (h : OneFrame s) : OneFrame (s.offerAlert a) := by
  unfold State.offerAlert
  split
  · have queued : OneFrame (s.setStx { s.stx with queue := enqueue a s.stx.queue }) :=
      ⟨slotsMatch_map h.1 fun cls => by cases cls <;> exact slotKeeps_refl _, h.2⟩
    exact oneFrame_fillUrgent queued
  · exact h

/-! ### The entries to the station states -/

theorem oneFrame_enterListen {s : State} (h : OneFrame s) : OneFrame s.enterListen := oneFrame_of_operating rfl h.1

theorem oneFrame_enterActive {s : State} (h : OneFrame s) : OneFrame s.enterActive := by
  have active : OneFrame ((s.setSc { s.sc with supCount := 0 }).setStc { s.stc with state := .active }) :=
    oneFrame_of_operating rfl h.1
  exact oneFrame_fillUrgent active

theorem oneFrame_enterLocal {s : State} (h : OneFrame s) : OneFrame s.enterLocal := by
  refine oneFrame_of_operating rfl (slotsMatch_map h.1 fun cls => ?_)
  cases cls <;> exact slotKeeps_slotCleared _

theorem oneFrame_enterLeaving {s : State} (h : OneFrame s) : OneFrame s.enterLeaving := by
  have said : OneFrame (((s.setPe Pe.idle).setDu (duCleared s.du)).putStx (stxLeaving s.stx)) := by
    refine oneFrame_putStx (s := (s.setPe Pe.idle).setDu (duCleared s.du)) h fun cls => ?_
    cases cls with
    | urgent => exact slotKeeps_slotEnter .leave _
    | demand => exact slotKeeps_slotCleared _
    | standing => exact slotKeeps_slotCleared _
  refine oneFrame_of_operating rfl ?_
  have matched := said.1
  rwa [putStx_stc] at matched

theorem oneFrame_park (s : State) : OneFrame s.park := oneFrame_of_empty rfl fun cls => by cases cls <;> rfl

theorem oneFrame_wake {s : State} (h : OneFrame s) : OneFrame s.wake := by
  refine oneFrame_of_operating (by simp [operating]) ?_
  have tx : s.wake.lp.tx = s.lp.tx := by simp [lpStart]
  rw [wake_stc, tx, wake_stx]
  exact h.1

theorem oneFrame_enterParked (s : State) : OneFrame s.enterParked :=
  enterParked_keeps (P := OneFrame) (oneFrame_park s) (oneFrame_wake (oneFrame_park s))

theorem oneFrame_enterFault (cause : FaultCause) (s : State) : OneFrame (s.enterFault cause) :=
  oneFrame_of_empty rfl fun cls => by cases cls <;> rfl

theorem oneFrame_countLp {s : State} {lp : Lp} (tx : lp.tx = s.lp.tx) (h : OneFrame s) : OneFrame (s.countLp lp) := by
  have counted : OneFrame (s.setLp lp) := oneFrame_congr (s := s) rfl rfl tx rfl h
  exact countLp_keeps (P := OneFrame) counted (fun _ _ _ => oneFrame_enterLocal counted) fun _ _ _ =>
    oneFrame_enterListen counted

theorem oneFrame_leaveReported {s : State} (gone : Bool) (h : OneFrame s) : OneFrame (s.leaveReported gone) := by
  obtain ⟨same, -⟩ | ⟨-, -, parks⟩ := leaveReported_cases s gone
  · exact same.symm ▸ h
  · exact parks ▸ oneFrame_enterParked s

/-! ### Sending -/

/-- When its frame ends, the slot that was SENDING may take any state that is not SENDING. -/
theorem oneFrame_frame_ends {s : State} {f : TxFrame} {slot : Slot} (sends : s.lp.tx = some f) (h : OneFrame s)
    (lp : Lp) (ended : lp.tx = none) (settled : ∀ id, slotMatches id none f.cls slot) :
    OneFrame ((s.setLp lp).putStx (withSlot s.stx f.cls slot)) := by
  refine oneFrame_of_no_frame ((putStx_lp_kept _ _).2.1.trans ended) ?_
  rw [putStx_stx, putStx_stc, setLp_stc]
  refine slotsMatch_withSlot (settled _) fun d other => ?_
  refine slotMatches_of_other_class (h.1 d) (fun g sent => ?_) (fun g none => by cases none)
  obtain rfl : f = g := Option.some.inj (sends.symm.trans sent)
  exact other.symm

theorem slotMatches_slotAfterFailure (id : Ident) (cls : SlotClass) (held : Held) (followUp : Option Statement) (noRetry : Bool) :
    slotMatches id none cls (slotAfterFailure held followUp noRetry) := by
  unfold slotAfterFailure
  split
  · exact ⟨by simp, Nat.zero_le _⟩
  · split
    · simp [slotMatches]
    · next retried =>
      refine ⟨by simp, ?_⟩
      simp only [thirdFailure, Bool.or_eq_true, decide_eq_true_eq, not_or] at retried
      simp only []
      omega

theorem slotMatches_slotAfterCompletion (id : Ident) (cls : SlotClass) (followUp : Option Statement) :
    slotMatches id none cls (slotAfterCompletion followUp) := by
  cases followUp with
  | none => simp [slotAfterCompletion, slotMatches]
  | some stmt => exact ⟨by simp, Nat.zero_le _⟩

/-- The slot of the frame under way is SENDING. -/
theorem sending_of_oneFrame {s : State} {f : TxFrame} (sends : s.lp.tx = some f) (h : OneFrame s) :
    ∃ held followUp noRetry, slotOf s.stx f.cls = .sending held followUp noRetry := by
  have matched := h.1 f.cls
  cases slot : slotOf s.stx f.cls with
  | empty =>
    rw [slot] at matched
    exact absurd rfl (matched f sends)
  | pending held =>
    rw [slot] at matched
    exact absurd rfl (matched.1 f sends)
  | sending held followUp noRetry => exact ⟨held, followUp, noRetry, rfl⟩

theorem oneFrame_collided {s : State} {f : TxFrame} (read : Option Character) (sends : s.lp.tx = some f) (h : OneFrame s) :
    OneFrame ((s.setLp (lpFrameEnds .collided read s.lp)).attemptFailed f.cls) := by
  obtain ⟨held, followUp, noRetry, sending⟩ := sending_of_oneFrame sends h
  have settles : OneFrame (settled (s.setLp (lpFrameEnds .collided read s.lp)) f.cls held followUp noRetry) :=
    oneFrame_fillUrgent (oneFrame_frame_ends sends h _ rfl fun id => slotMatches_slotAfterFailure id _ _ _ _)
  rw [attemptFailed_of_sending (s := s.setLp (lpFrameEnds .collided read s.lp)) sending]
  apply oneFrame_leaveReported
  split
  · exact oneFrame_countLp (lpRaise_kept 8 _).2.2.1 settles
  · exact settles

theorem oneFrame_completed {s : State} {f : TxFrame} (read : Option Character) (sends : s.lp.tx = some f) (h : OneFrame s) :
    OneFrame ((s.setLp (lpFrameEnds .completed read s.lp)).frameCompleted f.cls) := by
  obtain ⟨held, followUp, noRetry, sending⟩ := sending_of_oneFrame sends h
  rw [frameCompleted_of_sending (s := s.setLp (lpFrameEnds .completed read s.lp)) sending]
  refine oneFrame_leaveReported _ (oneFrame_fillUrgent ?_)
  exact oneFrame_frame_ends sends h _ (lpLower_kept _).2.2.1 fun id => slotMatches_slotAfterCompletion id _ _

/-- The next character of the frame goes out. -/
theorem oneFrame_next_character {s : State} {f : TxFrame} (sends : s.lp.tx = some f) (more : f.idx + 1 < f.bytes.length)
    (h : OneFrame s) : OneFrame (s.setLp { s.lp with tx := some { f with idx := f.idx + 1 } }) := by
  refine oneFrame_of_operating (Bool.not_eq_false _ ▸ fun quiet => ?_) fun cls => ?_
  · cases sends.symm.trans (h.2 quiet)
  · have matched := h.1 cls
    by_cases ofClass : f.cls = cls
    · obtain ⟨held, followUp, noRetry, sending⟩ := sending_of_oneFrame sends h
      rw [← ofClass, sending] at matched
      obtain ⟨failed, g, n, sent, -, seq, bytes, -⟩ := matched
      obtain rfl : f = g := Option.some.inj (sends.symm.trans sent)
      rw [← ofClass]
      simp only [setLp_stx, sending]
      exact ⟨failed, _, n, rfl, rfl, seq, bytes, more⟩
    · refine slotMatches_of_other_class matched (fun g sent => ?_) (fun g sent => ?_)
      · obtain rfl : f = g := Option.some.inj (sends.symm.trans sent)
        exact ofClass
      · obtain rfl : { f with idx := f.idx + 1 } = g := Option.some.inj sent
        exact ofClass

theorem oneFrame_readBack {s : State} {f : TxFrame} (read : Option Character) (sends : s.lp.tx = some f) (h : OneFrame s) :
    OneFrame (s.readBack f read) := by
  obtain ⟨-, more, next⟩ | ⟨-, -, completed⟩ | ⟨-, collided⟩ := readBack_cases s f read
  · exact next.symm ▸ oneFrame_next_character sends more h
  · exact completed.symm ▸ oneFrame_completed read sends h
  · exact collided.symm ▸ oneFrame_collided read sends h

theorem accessRuns_iff (s : State) :
    accessRuns s = true ↔ s.lp.line = .free ∧ s.lp.origin ≠ .unset ∧ s.lp.tx = none ∧ s.standing ≠ .silent := by
  simp [accessRuns, State.de, and_assoc]

theorem mayStart_iff (state : StationState) (stmt : Statement) :
    mayStart state stmt = true ↔ state = .active ∨ state = .leaving ∧ stmt = .leave := by
  cases state <;> simp [mayStart]

theorem oneFrame_startFrame {s : State} {cls : SlotClass} {held : Held} (pending : slotOf s.stx cls = .pending held)
    (idle : s.lp.tx = none) (op : operating s.stc.state = true) (h : OneFrame s) : OneFrame (s.startFrame cls held) := by
  have matched := h.1
  rw [idle] at matched
  refine oneFrame_of_operating op ?_
  have own := matched cls
  rw [pending] at own
  refine slotsMatch_withSlot ⟨own.2, _, _, rfl, rfl, rfl, rfl, ?_⟩ fun d other => ?_
  · simp [frameOf, frameBody]
  · have kept : slotOf { s.stx with seq := counterAfter s.stx.seq held } d = slotOf s.stx d := by cases d <;> rfl
    rw [kept]
    refine slotMatches_of_other_class (matched d) (fun f none => by cases none) (fun f sent => ?_)
    obtain rfl := Option.some.inj sent
    exact other.symm

theorem oneFrame_tryStart {s : State} (elapsed : Nat) (h : OneFrame s) : OneFrame (s.tryStart elapsed) := by
  unfold State.tryStart
  split
  · next cls held most =>
    split
    · next starts =>
      obtain ⟨runs, may, -⟩ := starts
      obtain ⟨-, -, idle, -⟩ := (accessRuns_iff s).mp runs
      refine oneFrame_startFrame (Alerts.slotOf_of_mostUrgent most) idle ?_ h
      obtain active | ⟨leaving, -⟩ := (mayStart_iff _ _).mp may
      · rw [active]
        rfl
      · rw [leaving]
        rfl
    · exact h
  · exact h

/-! ### The commands -/

theorem lpReceiveError_kept (lp : Lp) :
    (lpReceiveError lp).line = lp.line ∧ (lpReceiveError lp).origin = lp.origin ∧ (lpReceiveError lp).tx = lp.tx
      ∧ (lpReceiveError lp).tail = lp.tail ∧ (lpReceiveError lp).rx = lp.rx := by
  unfold lpReceiveError
  split
  · simp
  · exact lpRaise_kept 1 lp

theorem lpValidFrame_kept (lp : Lp) :
    (lpValidFrame lp).line = lp.line ∧ (lpValidFrame lp).tx = lp.tx ∧ (lpValidFrame lp).tail = lp.tail
      ∧ (lpValidFrame lp).rx = lp.rx := by
  obtain ⟨line, -, tx, tail, rx, -⟩ := lpLower_kept lp
  unfold lpValidFrame
  split
  · split <;> simp
  · exact ⟨line, tx, tail, rx⟩

theorem oneFrame_characterArrives {s : State} (c : Character) (own completed : Bool) (h : OneFrame s) :
    OneFrame (s.characterArrives c own completed) := by
  have hunting : OneFrame (s.setRx .hunting) := h
  apply characterArrives_keeps (P := OneFrame)
  · exact fun _ _ _ => h
  · exact fun _ => h
  · exact oneFrame_countLp (lpReceiveError_kept _).2.2.1 hunting
  · exact oneFrame_enterFault .dupId _
  · intro bytes _
    exact handOn_keeps (P := OneFrame)
      (fun s t line => oneFrame_congr (congrArg _ line.1) (congrArg _ line.1) (congrArg _ line.2.2) line.2.1)
      oneFrame_offerAlert (fun _ _ => id) (oneFrame_countLp (lpValidFrame_kept _).2.1 hunting) bytes

theorem oneFrame_enterSlot {s : State} (cls : SlotClass) (stmt : Statement) (h : OneFrame s) :
    OneFrame (s.enterSlot cls stmt) := by
  refine oneFrame_putStx h fun d => ?_
  by_cases same : d = cls
  · subst same
    rw [slotOf_withSlot_self]
    exact slotKeeps_slotEnter stmt _
  · rw [slotOf_withSlot_ne _ _ same]
    exact slotKeeps_refl _

theorem oneFrame_stationWork {s : State} (h : OneFrame s) : OneFrame s.stationWork := by
  have stc (stc : Stc) (id : stc.id = s.stc.id) (state : stc.state = s.stc.state) : OneFrame (s.setStc stc) :=
    oneFrame_congr id state rfl rfl h
  unfold State.stationWork
  split
  · exact h
  · exact h
  · exact listenWork_keeps (P := OneFrame) (stc _ rfl rfl) (fun _ => oneFrame_enterLocal (stc _ rfl rfl)) fun _ =>
      oneFrame_enterActive (stc _ rfl rfl)
  · exact ignitionWork_keeps (P := OneFrame) (stc _ rfl rfl) (fun _ => oneFrame_enterLeaving (stc _ rfl rfl)) fun _ _ =>
      oneFrame_park _
  · exact ignitionWork_keeps (P := OneFrame) (stc _ rfl rfl) (fun _ => oneFrame_enterLeaving (stc _ rfl rfl)) fun _ _ =>
      oneFrame_park _
  · exact leavingWork_keeps (P := OneFrame) (stc _ rfl rfl) (oneFrame_enterParked _)
  · exact parkedWork_keeps (P := OneFrame) h (oneFrame_wake h)

theorem oneFrame_putInForce {s : State} (c : Cfg) (h : OneFrame s) : OneFrame (s.putInForce c) := by
  refine oneFrame_of_operating (by simp [Memory.putInForce_stc, operating]) ?_
  have tx : (s.putInForce c).lp.tx = s.lp.tx := by simp [lpStart]
  rw [Memory.putInForce_stc, tx, putInForce_stx]
  exact h.1

theorem oneFrame_transactionEnds {s : State} (miso : List Byte) (h : OneFrame s) : OneFrame (s.transactionEnds miso) :=
  transactionEnds_keeps (P := OneFrame) miso h (fun _ => h) (oneFrame_enterFault .config _) fun sb lb profile _ =>
    oneFrame_putInForce (s := s.setLoader Loader.powerOn) (loadedCfg sb lb profile) h

/-- The identity is sampled in CONFIG, where nothing is under way (R101, R157). -/
theorem oneFrame_configurationRead {s : State} (id : Ident) (config : s.stc.state = .config) (h : OneFrame s) :
    OneFrame (s.setStc { s.stc with id := id }) := by
  have idle : s.lp.tx = none := h.2 (by rw [quiet, config]; rfl)
  have matched := h.1
  rw [idle] at matched
  exact oneFrame_of_no_frame idle (slotsMatch_none_any_id matched)

theorem work_keeps_oneFrame (i : Instr) (s : State) (h : OneFrame s) : OneFrame (work i s) := by
  have counted (ign : Bool) : OneFrame (s.latchIgn ign).warnCountdown := by
    obtain ⟨state, id, -⟩ := Transitions.warnCountdown_stays (s.latchIgn ign)
    exact oneFrame_congr id state (by simp) (by simp) h
  exact work_keeps_of_line (P := OneFrame)
    (congr := fun _ _ line => oneFrame_congr (congrArg _ line.1) (congrArg _ line.1) (congrArg _ line.2.2) line.2.1)
    (offers := oneFrame_offerAlert) h
    (config := oneFrame_of_empty rfl fun cls => by cases cls <;> rfl)
    (reads := fun id config => oneFrame_configurationRead id config h)
    (ends := fun miso _ => oneFrame_transactionEnds miso h)
    (forms := fun cls stmt _ _ => oneFrame_enterSlot cls stmt h)
    (evaluates := fun ign => oneFrame_stationWork (counted ign))
    (ticks := fun _ => h)
    (frees := fun _ => h)
    (starts := fun elapsed => oneFrame_tryStart elapsed h)
    (readsBack := fun f read ign sends => oneFrame_readBack (s := s.latchIgn ign) read sends h)
    (receives := fun c own completed _ => oneFrame_characterArrives (s := s.setLp { s.lp with tail := .none }) c own completed h)
    (startBit := fun _ => h) i

/-- Settles O53: every command's work keeps the frame and the slots in step. -/
theorem oneFrameAtATime : Obligations.OneFrameAtATime :=
  fun _ _ => step_keeps (fun _ => id) (fun _ _ => id) work_keeps_oneFrame

end Sys2Proof.Frames
end

section
/-! PROOFS. The standing and the receiver (spec/04, R94 to R100): the counts in their ranges, SILENT exactly where the station state
wants it, and a frame in progress shorter than its header says. -/

namespace Sys2Proof.Hearing

open Sys2Proof Sys2Proof.Machine Sys2Proof.Commands Sys2Proof.Paths Sys2Proof.Line

/-! ### The counts -/

/-- The trouble count and the recovery counter in their ranges (R98, R100). -/
def CountsLegal (lp : Lp) : Prop := lp.trouble ≤ 255 ∧ lp.recovery < 128

theorem countsLegal_lpRaise (n : Nat) {lp : Lp} (h : CountsLegal lp) : CountsLegal (lpRaise n lp) := by
  unfold lpRaise
  split
  · exact h
  · refine ⟨Nat.min_le_left _ _, ?_⟩
    simp only []
    split
    · exact Nat.zero_lt_succ _
    · exact h.2

theorem countsLegal_lpReceiveError {lp : Lp} (h : CountsLegal lp) : CountsLegal (lpReceiveError lp) := by
  unfold lpReceiveError
  split
  · exact ⟨h.1, Nat.zero_lt_succ _⟩
  · exact countsLegal_lpRaise 1 h

theorem lpLower_trouble (lp : Lp) : (lpLower lp).trouble = if 192 ≤ lp.trouble then lp.trouble else lp.trouble - 1 := by
  unfold lpLower
  simp only [standingOf_silent_iff]
  split <;> rfl

theorem lpLower_silent_iff (lp : Lp) : standingOf (lpLower lp).trouble = .silent ↔ standingOf lp.trouble = .silent := by
  rw [standingOf_silent_iff, standingOf_silent_iff, lpLower_trouble]
  split <;> omega

theorem countsLegal_lpLower {lp : Lp} (h : CountsLegal lp) : CountsLegal (lpLower lp) := by
  obtain ⟨trouble, recovery⟩ := h
  refine ⟨?_, (lpLower_kept lp).2.2.2.2.2.symm ▸ recovery⟩
  rw [lpLower_trouble]
  split <;> omega

theorem countsLegal_lpValidFrame {lp : Lp} (h : CountsLegal lp) : CountsLegal (lpValidFrame lp) := by
  unfold lpValidFrame
  split
  · split
    · exact ⟨Nat.zero_le _, Nat.zero_lt_succ _⟩
    · exact ⟨h.1, Nat.not_le.mp (by assumption)⟩
  · exact countsLegal_lpLower h

/-! ### The standing and the station state -/

theorem standingLegal_iff (s : State) :
    StandingLegal s ↔ CountsLegal s.lp ∧ (s.stc.state = .active → s.standing ≠ .silent)
      ∧ (s.stc.state = .localOnly → s.standing = .silent) := by
  simp only [StandingLegal, CountsLegal, and_assoc]

theorem counts_of_standingLegal {s : State} (h : StandingLegal s) : CountsLegal s.lp := ((standingLegal_iff s).mp h).1

/-- In a state that is neither ACTIVE nor LOCAL the standing is free. -/
theorem standingLegal_of_other {s : State} (counts : CountsLegal s.lp) (active : s.stc.state ≠ .active)
    (localOnly : s.stc.state ≠ .localOnly) : StandingLegal s :=
  (standingLegal_iff s).mpr ⟨counts, fun h => absurd h active, fun h => absurd h localOnly⟩

theorem standingLegal_congr {s t : State} (state : t.stc.state = s.stc.state) (trouble : t.lp.trouble = s.lp.trouble)
    (recovery : t.lp.recovery = s.lp.recovery) (h : StandingLegal s) : StandingLegal t := by
  unfold StandingLegal State.standing at *
  rw [state, trouble, recovery]
  exact h

theorem standingLegal_fillUrgent {s : State} (h : StandingLegal s) : StandingLegal s.fillUrgent := by
  obtain ⟨-, -, -, -, trouble, recovery⟩ := fillUrgent_lp_kept s
  exact standingLegal_congr (by simp) trouble recovery h

theorem standingLegal_offerAlert (s : State) (a : Alert) (h : StandingLegal s) : StandingLegal (s.offerAlert a) := by
  obtain ⟨-, -, -, -, trouble, recovery⟩ := offerAlert_lp_kept a s
  exact standingLegal_congr (by simp) trouble recovery h

theorem standingLegal_putStx {s : State} (x : Stx) (h : StandingLegal s) : StandingLegal (s.putStx x) := by
  obtain ⟨-, -, -, -, trouble, recovery⟩ := putStx_lp_kept s x
  exact standingLegal_congr (by simp) trouble recovery h

theorem standingLegal_enterListen {s : State} (h : CountsLegal s.lp) : StandingLegal s.enterListen :=
  standingLegal_of_other h (by simp) (by simp)

theorem standingLegal_enterActive {s : State} (h : CountsLegal s.lp) (speaks : s.standing ≠ .silent) :
    StandingLegal s.enterActive := by
  have active : StandingLegal ((s.setSc { s.sc with supCount := 0 }).setStc { s.stc with state := .active }) :=
    (standingLegal_iff _).mpr ⟨h, fun _ => speaks, by simp⟩
  exact standingLegal_fillUrgent active

theorem standingLegal_enterLocal {s : State} (h : CountsLegal s.lp) (silent : s.standing = .silent) :
    StandingLegal s.enterLocal :=
  (standingLegal_iff _).mpr ⟨h, by simp, fun _ => silent⟩

theorem standingLegal_enterLeaving {s : State} (h : CountsLegal s.lp) : StandingLegal s.enterLeaving := by
  obtain ⟨-, -, -, -, trouble, recovery⟩ :=
    putStx_lp_kept ((s.setPe Pe.idle).setDu (duCleared s.du)) (stxLeaving s.stx)
  exact standingLegal_of_other ⟨trouble.le.trans h.1, recovery.le.trans_lt h.2⟩ (by simp) (by simp)

theorem countsLegal_wake {s : State} (h : CountsLegal s.lp) : CountsLegal s.wake.lp := by
  rw [wake_lp]
  exact h

theorem standingLegal_wake {s : State} (h : CountsLegal s.lp) : StandingLegal s.wake :=
  standingLegal_of_other (countsLegal_wake h) (by simp) (by simp)

theorem countsLegal_park (s : State) : CountsLegal s.park.lp := ⟨Nat.zero_le _, Nat.zero_lt_succ _⟩

theorem standingLegal_park (s : State) : StandingLegal s.park := standingLegal_of_other (countsLegal_park s) (by simp) (by simp)

theorem standingLegal_enterParked (s : State) : StandingLegal s.enterParked :=
  enterParked_keeps (P := StandingLegal) (standingLegal_park s) (standingLegal_wake (countsLegal_park s))

theorem standingLegal_enterFault (cause : FaultCause) {s : State} (h : CountsLegal s.lp) :
    StandingLegal (s.enterFault cause) := standingLegal_of_other h (by simp) (by simp)

/-- The station follows its standing: new counts leave a legal station (R162). -/
theorem standingLegal_countLp {s : State} {lp : Lp} (h : StandingLegal s) (counts : CountsLegal lp) :
    StandingLegal (s.countLp lp) := by
  obtain ⟨-, active, localOnly⟩ := (standingLegal_iff s).mp h
  unfold State.countLp
  obtain ⟨same, noLoss, noRecovery⟩ | ⟨-, -, silent, toLocal⟩ | ⟨-, -, -, toListen⟩ := takeStanding_cases (s.setLp lp) s.standing
  · rw [same, standingLegal_iff]
    refine ⟨counts, fun state silent => noLoss ⟨state, active state, silent⟩, fun state => ?_⟩
    by_contra speaks
    exact noRecovery ⟨state, localOnly state, speaks⟩
  · rw [toLocal]
    exact standingLegal_enterLocal counts silent
  · rw [toListen]
    exact standingLegal_enterListen counts

theorem countsLegal_countLp {s : State} {lp : Lp} (counts : CountsLegal lp) : CountsLegal (s.countLp lp).lp := by
  simpa [State.countLp] using counts

theorem standingLegal_leaveReported {s : State} (gone : Bool) (h : StandingLegal s) : StandingLegal (s.leaveReported gone) := by
  obtain ⟨same, -⟩ | ⟨-, -, parks⟩ := leaveReported_cases s gone
  · exact same.symm ▸ h
  · exact parks ▸ standingLegal_enterParked s

theorem standingLegal_attemptFailed {s : State} (cls : SlotClass) (h : StandingLegal s) :
    StandingLegal (s.attemptFailed cls) := by
  obtain ⟨same, -⟩ | ⟨held, followUp, noRetry, sending⟩ := attemptFailed_cases s cls
  · exact same.symm ▸ h
  · have settles : StandingLegal (settled s cls held followUp noRetry) := standingLegal_fillUrgent (standingLegal_putStx _ h)
    rw [attemptFailed_of_sending sending]
    apply standingLegal_leaveReported
    split
    · exact standingLegal_countLp settles (countsLegal_lpRaise 8 (counts_of_standingLegal settles))
    · exact settles

/-- A fall of the count makes no station SILENT and ends no silence (R98). -/
theorem standingLegal_lpLower {s : State} (h : StandingLegal s) : StandingLegal (s.setLp (lpLower s.lp)) := by
  obtain ⟨counts, active, localOnly⟩ := (standingLegal_iff s).mp h
  exact (standingLegal_iff _).mpr ⟨countsLegal_lpLower counts, fun state => mt (lpLower_silent_iff s.lp).mp (active state),
    fun state => (lpLower_silent_iff s.lp).mpr (localOnly state)⟩

theorem standingLegal_frameCompleted {s : State} (cls : SlotClass) (h : StandingLegal s) :
    StandingLegal (s.frameCompleted cls) := by
  obtain ⟨same, -⟩ | ⟨held, followUp, noRetry, sending⟩ := frameCompleted_cases s cls
  · exact same.symm ▸ h
  · rw [frameCompleted_of_sending sending]
    exact standingLegal_leaveReported _ (standingLegal_fillUrgent (standingLegal_putStx _ (standingLegal_lpLower h)))

theorem standingLegal_readBack {s : State} (f : TxFrame) (read : Option Character) (h : StandingLegal s) :
    StandingLegal (s.readBack f read) := by
  obtain ⟨-, -, next⟩ | ⟨-, -, completed⟩ | ⟨-, collided⟩ := readBack_cases s f read
  · exact next.symm ▸ h
  · exact completed.symm ▸ standingLegal_frameCompleted (s := s.setLp (lpFrameEnds .completed read s.lp)) f.cls h
  · exact collided.symm ▸ standingLegal_attemptFailed (s := s.setLp (lpFrameEnds .collided read s.lp)) f.cls h

theorem standingLegal_characterArrives {s : State} (c : Character) (own completed : Bool) (h : StandingLegal s) :
    StandingLegal (s.characterArrives c own completed) := by
  have hunting : StandingLegal (s.setRx .hunting) := h
  have counts := counts_of_standingLegal hunting
  apply characterArrives_keeps (P := StandingLegal)
  · exact fun _ _ _ => h
  · exact fun _ => h
  · exact standingLegal_countLp hunting (countsLegal_lpReceiveError counts)
  · exact standingLegal_enterFault .dupId (countsLegal_countLp (countsLegal_lpValidFrame counts))
  · intro bytes _
    exact handOn_keeps (P := StandingLegal)
      (fun s t line => standingLegal_congr (congrArg _ line.1) (congrArg _ line.2.2) (congrArg _ line.2.2))
      standingLegal_offerAlert (fun _ _ => id) (standingLegal_countLp hunting (countsLegal_lpValidFrame counts)) bytes

theorem standingLegal_stationWork {s : State} (h : StandingLegal s) : StandingLegal s.stationWork := by
  have counts := counts_of_standingLegal h
  unfold State.stationWork
  split
  · exact h
  · exact h
  · exact listenWork_keeps (P := StandingLegal) h (fun silent => standingLegal_enterLocal counts silent) fun speaks =>
      standingLegal_enterActive counts speaks
  · exact ignitionWork_keeps (P := StandingLegal) h (fun _ => standingLegal_enterLeaving counts) fun _ _ => standingLegal_park _
  · exact ignitionWork_keeps (P := StandingLegal) h (fun _ => standingLegal_enterLeaving counts) fun _ _ => standingLegal_park _
  · exact leavingWork_keeps (P := StandingLegal) h (standingLegal_enterParked _)
  · exact parkedWork_keeps (P := StandingLegal) h (standingLegal_wake counts)

theorem standingLegal_transactionEnds {s : State} (miso : List Byte) (h : StandingLegal s) :
    StandingLegal (s.transactionEnds miso) := by
  have counts := counts_of_standingLegal h
  apply transactionEnds_keeps (P := StandingLegal) miso h
  · exact fun _ => h
  · exact standingLegal_enterFault .config counts
  · intro sb lb profile _
    refine standingLegal_of_other ?_ (by simp [Memory.putInForce_stc]) (by simp [Memory.putInForce_stc])
    rw [putInForce_lp]
    exact counts

theorem work_keeps_standingLegal (i : Instr) (s : State) (h : StandingLegal s) : StandingLegal (work i s) := by
  have counted (ign : Bool) : StandingLegal (s.latchIgn ign).warnCountdown :=
    standingLegal_congr (Transitions.warnCountdown_stays (s.latchIgn ign)).1 (by simp) (by simp) h
  exact work_keeps_of_line (P := StandingLegal)
    (congr := fun _ _ line => standingLegal_congr (congrArg _ line.1) (congrArg _ line.2.2) (congrArg _ line.2.2))
    (offers := standingLegal_offerAlert) h
    (config := standingLegal_of_other ⟨Nat.zero_le _, Nat.zero_lt_succ _⟩ (by simp [State.enterConfig, State.reset, Stc.powerOn])
      (by simp [State.enterConfig, State.reset, Stc.powerOn]))
    (reads := fun _ _ => h)
    (ends := fun miso _ => standingLegal_transactionEnds miso h)
    (forms := fun _ _ _ _ => standingLegal_putStx _ h)
    (evaluates := fun ign => standingLegal_stationWork (counted ign))
    (ticks := fun _ => h)
    (frees := fun _ => h)
    (starts := fun elapsed => by
      unfold State.tryStart
      split <;> (try split) <;> exact h)
    (readsBack := fun f read ign _ => standingLegal_readBack (s := s.latchIgn ign) f read h)
    (receives := fun c own completed _ =>
      standingLegal_characterArrives (s := s.setLp { s.lp with tail := .none }) c own completed h)
    (startBit := fun _ => h) i

/-! ### The receiver -/

theorem receiverLegal_congr {s t : State} (rx : t.lp.rx = s.lp.rx) (h : ReceiverLegal s) : ReceiverLegal t := by
  unfold ReceiverLegal at *
  rw [rx]
  exact h

theorem receiverLegal_of_rx {s : State} (h : s.lp.rx = .hunting ∨ s.lp.rx = .disarmed) : ReceiverLegal s :=
  receiverLegal_of_not_inFrame fun f inFrame => by
    obtain h | h := h <;> cases h.symm.trans inFrame

theorem receiverLegal_offerAlert (s : State) (a : Alert) (h : ReceiverLegal s) : ReceiverLegal (s.offerAlert a) := by
  obtain ⟨-, -, -, rx, -⟩ := offerAlert_lp_kept a s
  exact receiverLegal_congr rx h

theorem countLp_rx (s : State) {lp : Lp} (rx : lp.rx = s.lp.rx) : (s.countLp lp).lp.rx = s.lp.rx := by
  simpa [State.countLp] using rx

theorem receiverLegal_enterParked (s : State) : ReceiverLegal s.enterParked := by
  apply enterParked_keeps (P := ReceiverLegal)
  · exact receiverLegal_of_rx (.inr rfl)
  · exact receiverLegal_of_rx (.inr (by simp [lpStart]))

theorem receiverLegal_leaveReported {s : State} (gone : Bool) (h : ReceiverLegal s) : ReceiverLegal (s.leaveReported gone) := by
  obtain ⟨same, -⟩ | ⟨-, -, parks⟩ := leaveReported_cases s gone
  · exact same.symm ▸ h
  · exact parks ▸ receiverLegal_enterParked s

theorem fillUrgent_putStx_rx (s : State) (x : Stx) : (s.putStx x).fillUrgent.lp.rx = s.lp.rx := by
  obtain ⟨-, -, -, filled, -⟩ := fillUrgent_lp_kept (s.putStx x)
  obtain ⟨-, -, -, put, -⟩ := putStx_lp_kept s x
  exact filled.trans put

theorem receiverLegal_attemptFailed {s : State} (cls : SlotClass) (h : ReceiverLegal s) :
    ReceiverLegal (s.attemptFailed cls) := by
  obtain ⟨same, -⟩ | ⟨held, followUp, noRetry, sending⟩ := attemptFailed_cases s cls
  · exact same.symm ▸ h
  · have settles : ReceiverLegal (settled s cls held followUp noRetry) := receiverLegal_congr (fillUrgent_putStx_rx _ _) h
    rw [attemptFailed_of_sending sending]
    apply receiverLegal_leaveReported
    split
    · exact receiverLegal_congr (countLp_rx _ (lpRaise_kept 8 _).2.2.2.2) settles
    · exact settles

theorem receiverLegal_frameCompleted {s : State} (cls : SlotClass) (h : ReceiverLegal s) :
    ReceiverLegal (s.frameCompleted cls) := by
  obtain ⟨same, -⟩ | ⟨held, followUp, noRetry, sending⟩ := frameCompleted_cases s cls
  · exact same.symm ▸ h
  · rw [frameCompleted_of_sending sending]
    refine receiverLegal_leaveReported _ (receiverLegal_congr (s := s) ?_ h)
    exact (fillUrgent_putStx_rx _ _).trans (lpLower_kept s.lp).2.2.2.2.1

theorem receiverLegal_readBack {s : State} (f : TxFrame) (read : Option Character) (h : ReceiverLegal s) :
    ReceiverLegal (s.readBack f read) := by
  obtain ⟨-, -, next⟩ | ⟨-, -, completed⟩ | ⟨-, collided⟩ := readBack_cases s f read
  · exact next.symm ▸ h
  · exact completed.symm ▸ receiverLegal_frameCompleted (s := s.setLp (lpFrameEnds .completed read s.lp)) f.cls h
  · exact collided.symm ▸ receiverLegal_attemptFailed (s := s.setLp (lpFrameEnds .collided read s.lp)) f.cls h

theorem receiverLegal_characterArrives {s : State} (c : Character) (own completed : Bool) (h : ReceiverLegal s) :
    ReceiverLegal (s.characterArrives c own completed) := by
  have hunting : ReceiverLegal (s.setRx .hunting) := receiverLegal_of_rx (.inl rfl)
  apply characterArrives_keeps (P := ReceiverLegal)
  · exact fun _ keeps _ => keeps h
  · exact fun _ => h
  · exact receiverLegal_congr (countLp_rx _ (Frames.lpReceiveError_kept _).2.2.2.2) hunting
  · exact receiverLegal_of_rx (.inr rfl)
  · intro bytes _
    exact handOn_keeps (P := ReceiverLegal) (fun s t line => receiverLegal_congr (congrArg _ line.2.2)) receiverLegal_offerAlert
      (fun _ _ => id) (receiverLegal_congr (countLp_rx _ (Frames.lpValidFrame_kept _).2.2.2) hunting) bytes

theorem receiverLegal_stationWork {s : State} (h : ReceiverLegal s) : ReceiverLegal s.stationWork := by
  have leaving (u : State) (rx : u.lp.rx = s.lp.rx) : ReceiverLegal u.enterLeaving := by
    obtain ⟨-, -, -, put, -⟩ := putStx_lp_kept ((u.setPe Pe.idle).setDu (duCleared u.du)) (stxLeaving u.stx)
    exact receiverLegal_congr (put.trans rx) h
  have active (u : State) (rx : u.lp.rx = s.lp.rx) : ReceiverLegal u.enterActive := by
    obtain ⟨-, -, -, filled, -⟩ := fillUrgent_lp_kept ((u.setSc { u.sc with supCount := 0 }).setStc { u.stc with state := .active })
    exact receiverLegal_congr (filled.trans rx) h
  unfold State.stationWork
  split
  · exact h
  · exact h
  · exact listenWork_keeps (P := ReceiverLegal) h (fun _ => h) fun _ => active _ rfl
  · exact ignitionWork_keeps (P := ReceiverLegal) h (fun _ => leaving _ rfl) fun _ _ => receiverLegal_of_rx (.inr rfl)
  · exact ignitionWork_keeps (P := ReceiverLegal) h (fun _ => leaving _ rfl) fun _ _ => receiverLegal_of_rx (.inr rfl)
  · exact leavingWork_keeps (P := ReceiverLegal) h (receiverLegal_enterParked _)
  · exact parkedWork_keeps (P := ReceiverLegal) h (receiverLegal_of_rx (.inr (by simp [lpStart])))

theorem receiverLegal_transactionEnds {s : State} (miso : List Byte) (h : ReceiverLegal s) :
    ReceiverLegal (s.transactionEnds miso) :=
  transactionEnds_keeps (P := ReceiverLegal) miso h (fun _ => h) (receiverLegal_of_rx (.inr rfl)) fun sb lb profile _ =>
    receiverLegal_of_rx (.inr (by simp [lpStart]))

theorem work_keeps_receiverLegal (i : Instr) (s : State) (h : ReceiverLegal s) : ReceiverLegal (work i s) :=
  work_keeps_of_line (P := ReceiverLegal)
    (congr := fun _ _ line => receiverLegal_congr (congrArg _ line.2.2))
    (offers := receiverLegal_offerAlert) h
    (config := receiverLegal_of_rx (.inr rfl))
    (reads := fun _ _ => h)
    (ends := fun miso _ => receiverLegal_transactionEnds miso h)
    (forms := fun _ _ _ _ => receiverLegal_congr (putStx_lp_kept s _).2.2.2.1 h)
    (evaluates := fun ign => receiverLegal_stationWork (receiverLegal_congr (by simp) h))
    (ticks := fun _ => h)
    (frees := fun _ => receiverLegal_of_rx (.inl (by cases rx : s.lp.rx <;> simp [lpLineFree, rxAtLineFree, rx])))
    (starts := fun elapsed => by
      unfold State.tryStart
      split <;> (try split) <;> exact h)
    (readsBack := fun f read ign _ => receiverLegal_readBack (s := s.latchIgn ign) f read h)
    (receives := fun c own completed _ =>
      receiverLegal_characterArrives (s := s.setLp { s.lp with tail := .none }) c own completed h)
    (startBit := fun _ => h) i

/-- Settles O54: the two invariants, each kept by every command's work. -/
theorem standingAndReceiverStayLegal : Obligations.StandingAndReceiverStayLegal := fun _ _ taken =>
  ⟨fun h => step_keeps (fun _ => id) (fun _ _ => id) work_keeps_standingLegal h taken,
    fun h => step_keeps (fun _ => id) (fun _ _ => id) work_keeps_receiverLegal h taken⟩

end Sys2Proof.Hearing
end

section
/-! PROOFS. The moves between station states, once for every property of the blocks that neither the line nor the counters of STC
decide: what the entries to the station states keep, the commands that bring them about keep. -/

namespace Sys2Proof.Blocks

open Sys2Proof Sys2Proof.Machine Sys2Proof.Commands Sys2Proof.Paths

/-! ### What the line and the counters do not touch -/

/-- Station state, identity, cause, configuration, table and the working blocks are the same in two states. -/
structure SameBlocks (s t : State) : Prop where
  state : t.stc.state = s.stc.state
  id : t.stc.id = s.stc.id
  cause : t.stc.cause = s.stc.cause
  cfg : t.cfg = s.cfg
  pt : t.pt = s.pt
  pe : t.pe = s.pe
  du : t.du = s.du
  cu : t.cu = s.cu
  te : t.te = s.te
  am : t.am = s.am
  sc : t.sc = s.sc

theorem sameBlocks_refl (s : State) : SameBlocks s s := ⟨rfl, rfl, rfl, rfl, rfl, rfl, rfl, rfl, rfl, rfl, rfl⟩

theorem sameBlocks_trans {s t u : State} (h : SameBlocks s t) (h' : SameBlocks t u) : SameBlocks s u :=
  ⟨h'.state.trans h.state, h'.id.trans h.id, h'.cause.trans h.cause, h'.cfg.trans h.cfg, h'.pt.trans h.pt, h'.pe.trans h.pe,
    h'.du.trans h.du, h'.cu.trans h.cu, h'.te.trans h.te, h'.am.trans h.am, h'.sc.trans h.sc⟩

theorem sameBlocks_setLp (s : State) (x : Lp) : SameBlocks s (s.setLp x) :=
  ⟨rfl, rfl, rfl, rfl, rfl, rfl, rfl, rfl, rfl, rfl, rfl⟩

theorem sameBlocks_setInp (s : State) (x : InPins) : SameBlocks s (s.setInp x) :=
  ⟨rfl, rfl, rfl, rfl, rfl, rfl, rfl, rfl, rfl, rfl, rfl⟩

theorem sameBlocks_setOut (s : State) (x : OutPins) : SameBlocks s (s.setOut x) :=
  ⟨rfl, rfl, rfl, rfl, rfl, rfl, rfl, rfl, rfl, rfl, rfl⟩

theorem sameBlocks_setPending (s : State) (x : List Instr) : SameBlocks s (s.setPending x) :=
  ⟨rfl, rfl, rfl, rfl, rfl, rfl, rfl, rfl, rfl, rfl, rfl⟩

theorem sameBlocks_setLoader (s : State) (x : Loader) : SameBlocks s (s.setLoader x) :=
  ⟨rfl, rfl, rfl, rfl, rfl, rfl, rfl, rfl, rfl, rfl, rfl⟩

/-- The counters of STC may change. -/
theorem sameBlocks_setStc (s : State) {x : Stc} (state : x.state = s.stc.state) (id : x.id = s.stc.id)
    (cause : x.cause = s.stc.cause) : SameBlocks s (s.setStc x) :=
  ⟨state, id, cause, rfl, rfl, rfl, rfl, rfl, rfl, rfl, rfl⟩

theorem sameBlocks_offer (s : State) (a : Option Alert) : SameBlocks s (s.offer a) := by
  constructor <;> simp

theorem sameBlocks_putStx (s : State) (x : Stx) : SameBlocks s (s.putStx x) := by
  constructor <;> simp

theorem sameBlocks_fillUrgent (s : State) : SameBlocks s s.fillUrgent := by
  constructor <;> simp

theorem sameBlocks_tryStart (s : State) (elapsed : Nat) : SameBlocks s (s.tryStart elapsed) := by
  constructor <;> simp

theorem sameBlocks_warnCountdown (s : State) : SameBlocks s s.warnCountdown := by
  unfold State.warnCountdown
  split
  · exact sameBlocks_setStc s rfl rfl rfl
  · exact sameBlocks_refl s

theorem sameBlocks_warnArrives (s : State) (stmt : Statement) : SameBlocks s (s.warnArrives stmt) := by
  unfold State.warnArrives
  split
  · split
    · exact sameBlocks_setStc s rfl rfl rfl
    · exact sameBlocks_refl s
  all_goals exact sameBlocks_refl s

/-! ### What the moves keep -/

/-- A property of the blocks that every entry to a station state and every statement of a peer keeps. -/
structure KeptByMoves (P : State → Prop) : Prop where
  congr : ∀ s t, SameBlocks s t → P s → P t
  listen : ∀ s, s.stc.state = .localOnly → P s → P s.enterListen
  active : ∀ s, s.stc.state = .listen → P s → P s.enterActive
  toLocal : ∀ s, s.stc.state = .listen ∨ s.stc.state = .active → P s → P s.enterLocal
  leaving : ∀ s, s.stc.state = .active → P s → P s.enterLeaving
  dupId : ∀ s, operating s.stc.state = true → P s → P (s.enterFault .dupId)
  invalid : ∀ s, s.stc.state = .config → P s → P (s.enterFault .config)
  park : ∀ s, operating s.stc.state = true → P s → P s.park
  wake : ∀ s, s.stc.state = .parked → P s → P s.wake
  inForce : ∀ s sb lb profile, s.stc.state = .config → checksPass sb lb = true → P s →
    P (s.putInForce (loadedCfg sb lb profile))
  arrives : ∀ s id seq stmt, operating s.stc.state = true → id ≠ s.stc.id → P s →
    P (s.setPt (slotSet s.pt id (arriveAt s.cfg.profile stmt seq (slotGet s.pt id))))

theorem operating_countLp {s : State} (lp : Lp) (op : operating s.stc.state = true) :
    operating (s.countLp lp).stc.state = true := by
  obtain ⟨state, -⟩ | ⟨-, state, -⟩ | ⟨-, -, -, state, -⟩ := Transitions.countLp_enters s lp <;> rw [state]
  · exact op
  · rfl
  · rfl

theorem countLp_id (s : State) (lp : Lp) : (s.countLp lp).stc.id = s.stc.id := by
  obtain ⟨-, id, -⟩ | ⟨-, -, id, -⟩ | ⟨-, -, -, -, id, -⟩ := Transitions.countLp_enters s lp <;> exact id

section moves
variable {P : State → Prop} (keeps : KeptByMoves P)
include keeps

theorem kept_countLp {s : State} (lp : Lp) (h : P s) : P (s.countLp lp) := by
  have counted : P (s.setLp lp) := keeps.congr _ _ (sameBlocks_setLp s lp) h
  exact countLp_keeps counted (fun active _ _ => keeps.toLocal _ (.inr active) counted) fun state _ _ =>
    keeps.listen _ state counted

theorem kept_enterParked {s : State} (op : operating s.stc.state = true) (h : P s) : P s.enterParked :=
  have parked : P s.park := keeps.park s op h
  enterParked_keeps parked (keeps.wake _ rfl parked)

theorem kept_leaveReported {s : State} (gone : Bool) (h : P s) : P (s.leaveReported gone) := by
  obtain ⟨same, -⟩ | ⟨-, leaving, parks⟩ := leaveReported_cases s gone
  · exact same.symm ▸ h
  · exact parks.symm ▸ kept_enterParked keeps (by rw [leaving]; rfl) h

theorem kept_attemptFailed {s : State} (cls : SlotClass) (h : P s) : P (s.attemptFailed cls) := by
  obtain ⟨same, -⟩ | ⟨held, followUp, noRetry, sending⟩ := attemptFailed_cases s cls
  · exact same.symm ▸ h
  · have settles : P (settled s cls held followUp noRetry) :=
      keeps.congr _ _ (sameBlocks_trans (sameBlocks_putStx s _) (sameBlocks_fillUrgent _)) h
    rw [attemptFailed_of_sending sending]
    apply kept_leaveReported keeps
    split
    · exact kept_countLp keeps _ settles
    · exact settles

theorem kept_frameCompleted {s : State} (cls : SlotClass) (h : P s) : P (s.frameCompleted cls) := by
  obtain ⟨same, -⟩ | ⟨held, followUp, noRetry, sending⟩ := frameCompleted_cases s cls
  · exact same.symm ▸ h
  · rw [frameCompleted_of_sending sending]
    refine kept_leaveReported keeps _ (keeps.congr _ _ ?_ h)
    exact sameBlocks_trans (sameBlocks_trans (sameBlocks_setLp s _) (sameBlocks_putStx _ _)) (sameBlocks_fillUrgent _)

theorem kept_readBack {s : State} (f : TxFrame) (read : Option Character) (h : P s) : P (s.readBack f read) := by
  have set (lp : Lp) : P (s.setLp lp) := keeps.congr _ _ (sameBlocks_setLp s lp) h
  obtain ⟨-, -, next⟩ | ⟨-, -, completed⟩ | ⟨-, collided⟩ := readBack_cases s f read
  · exact next.symm ▸ set _
  · exact completed.symm ▸ kept_frameCompleted keeps f.cls (set _)
  · exact collided.symm ▸ kept_attemptFailed keeps f.cls (set _)

theorem kept_handOn {s : State} (bytes : List Byte) (op : operating s.stc.state = true)
    (other : headerIdent (byteAt bytes 0) ≠ s.stc.id) (h : P s) : P (s.handOn bytes) :=
  keeps.congr _ _ (sameBlocks_trans (sameBlocks_offer _ _) (sameBlocks_warnArrives _ _)) (keeps.arrives s _ _ _ op other h)

theorem kept_characterArrives {s : State} (c : Character) (own completed : Bool) (op : operating s.stc.state = true) (h : P s) :
    P (s.characterArrives c own completed) := by
  have set (rx : Receiver) : P (s.setRx rx) := keeps.congr _ _ (sameBlocks_setLp s _) h
  have counted (lp : Lp) : P ((s.setRx .hunting).countLp lp) := kept_countLp keeps lp (set _)
  have still (lp : Lp) : operating ((s.setRx .hunting).countLp lp).stc.state = true := operating_countLp lp op
  apply characterArrives_keeps
  · exact fun rx _ _ => set rx
  · exact fun _ => h
  · exact counted _
  · exact keeps.dupId _ (still _) (counted _)
  · exact fun bytes other => kept_handOn keeps bytes (still _) ((countLp_id (s.setRx .hunting) _).symm ▸ other) (counted _)

theorem kept_stationWork {s : State} (h : P s) : P s.stationWork := by
  have set {x : Stc} (state : x.state = s.stc.state) (id : x.id = s.stc.id) (cause : x.cause = s.stc.cause) :
      P (s.setStc x) := keeps.congr _ _ (sameBlocks_setStc s state id cause) h
  unfold State.stationWork
  split
  · exact h
  · exact h
  · next listen =>
    exact listenWork_keeps (set rfl rfl rfl) (fun _ => keeps.toLocal _ (.inl listen) (set rfl rfl rfl)) fun _ =>
      keeps.active _ listen (set rfl rfl rfl)
  · next active =>
    exact ignitionWork_keeps (set rfl rfl rfl) (fun _ => keeps.leaving _ active (set rfl rfl rfl)) fun other =>
      absurd active other
  · next localOnly =>
    exact ignitionWork_keeps (set rfl rfl rfl) (fun active => absurd (localOnly.symm.trans active) (by simp)) fun _ _ =>
      keeps.park _ (by simp [localOnly, operating]) (set rfl rfl rfl)
  · next leaving =>
    exact leavingWork_keeps (set rfl rfl rfl) (kept_enterParked keeps (by simp [leaving, operating]) (set rfl rfl rfl))
  · next parked => exact parkedWork_keeps h (keeps.wake s parked h)

theorem kept_transactionEnds {s : State} (miso : List Byte) (config : s.stc.state = .config) (h : P s) :
    P (s.transactionEnds miso) := by
  have set (x : Loader) : P (s.setLoader x) := keeps.congr _ _ (sameBlocks_setLoader s x) h
  exact transactionEnds_keeps miso h set (keeps.invalid (s.setLoader Loader.powerOn) config (set _)) fun sb lb profile ok =>
    keeps.inForce _ sb lb profile config ok (set _)

/-- The commands one by one, for a property of the blocks: the moves, and each evaluation by what it sets. -/
theorem work_keeps_of_moves {s : State} (h : P s) (config : P s.enterConfig)
    (reads : ∀ id, s.stc.state = .config → P (s.setStc { s.stc with id := id }))
    (plans : s.stc.state = .active → P (s.setPe (peNext s.cfg s.stc.id (computePlan s) s.pe)))
    (demands : ∀ inp, demandRuns s.stc.state = true →
      P ((s.setInp inp).setDu (mergeStage (s.setInp inp) (ownStages (s.setInp inp)))))
    (ages : P (s.setPt (slotsMap (agedSlot s.cfg) s.pt)))
    (sinks : ∀ inp, operating s.stc.state = true → P (s.setInp inp).sinkStages)
    (heats : operating s.stc.state = true → s.role = .axle → P s.heatAndCool)
    (adheres : operating s.stc.state = true →
      P (if s.role = .retarder then (s.setAm (amNext s)).formCapacity else s.setAm (amNext s)))
    (eng : ∀ n, P (s.setCu { s.cu with engPulses := n })) (wheel : ∀ n, P (s.setAm { s.am with pulses := n })) (i : Instr) :
    P (work i s) := by
  have same {t : State} (blocks : SameBlocks s t) : P t := keeps.congr s t blocks h
  cases i with
  | powerOn => exact config
  | resetn => exact keeps.congr _ _ (sameBlocks_setInp _ _) config
  | configurationRead straps =>
    simp only [work]
    split
    · next idle =>
      refine keeps.congr (s.setStc { s.stc with id := straps.toFin }) _ ?_ (reads _ idle.1)
      exact sameBlocks_trans (sameBlocks_setInp _ _) (sameBlocks_setLoader _ _)
    · exact same (sameBlocks_setInp s _)
  | spiTransactionEnd miso =>
    simp only [work]
    split
    · next config => exact kept_transactionEnds keeps miso config h
    · exact h
  | peEvaluationExpiry =>
    simp only [work]
    split
    · next active => exact keeps.congr _ _ (sameBlocks_offer _ _) (plans active)
    · exact h
  | duEvaluationExpiry pa pb stk =>
    simp only [work]
    split
    · next runs =>
      exact keeps.congr _ _ (sameBlocks_trans (sameBlocks_offer _ _) (sameBlocks_offer _ _)) (demands _ runs)
    · exact same (sameBlocks_setInp s _)
  | ageExpiry => exact ages
  | sinkExpiry fb temp pos =>
    simp only [work]
    split
    · next op => exact sinks _ op
    · exact same (sameBlocks_setInp s _)
  | thermalExpiry =>
    simp only [work]
    split
    · next axle => exact heats axle.1 axle.2
    · exact h
  | amEvaluationExpiry =>
    simp only [work]
    split
    · next op => exact keeps.congr _ _ (sameBlocks_offer _ _) (adheres op)
    · exact h
  | standingExpiry =>
    simp only [work]
    split
    · exact same (sameBlocks_putStx s _)
    · exact h
  | demandExpiry =>
    simp only [work]
    split
    · exact same (sameBlocks_putStx s _)
    · exact h
  | stcEvaluationExpiry ign =>
    exact kept_stationWork keeps (same (sameBlocks_trans (sameBlocks_setInp s _) (sameBlocks_warnCountdown _)))
  | parkTimerTick =>
    simp only [work]
    split
    · exact same (sameBlocks_setStc s rfl rfl rfl)
    · exact h
  | engPulse =>
    simp only [work]
    split
    · exact eng _
    · exact h
  | wheelPulse =>
    simp only [work]
    split
    · exact wheel _
    · exact h
  | lineFreePoint quiet =>
    simp only [work]
    split
    · exact same (sameBlocks_setLp s _)
    · exact h
  | accessWaitEnd elapsed => exact same (sameBlocks_tryStart s elapsed)
  | characterReadBack read ign =>
    simp only [work]
    split
    · exact kept_readBack keeps _ read (same (sameBlocks_setInp s _))
    · exact same (sameBlocks_setInp s _)
  | characterReceived c =>
    simp only [work]
    split
    · next op => exact kept_characterArrives keeps c _ _ op (same (sameBlocks_setLp s _))
    · exact h
  | startBit =>
    simp only [work]
    split
    · exact same (sameBlocks_setLp s _)
    · exact h

theorem step_keeps_of_moves (works : ∀ i s, P s → P (work i s)) {s t : State} (h : P s) (taken : step s = .next t) : P t :=
  step_keeps (fun _ => keeps.congr _ _ (sameBlocks_setOut _ _)) (fun _ _ => keeps.congr _ _ (sameBlocks_setPending _ _)) works h
    taken

end moves

end Sys2Proof.Blocks
end

section
/-! PROOFS. The peer table (spec/03): what each statement makes of a record, ageing, and that every step keeps the table legal. -/

namespace Sys2Proof.Table

open Sys2Proof Sys2Proof.Machine Sys2Proof.Commands Sys2Proof.Paths Sys2Proof.Blocks

/-! ### Legal records -/

theorem recordLegal_learned (own : Half) (role : Role) (f : StandingFields) (seq : BitVec 8) :
    RecordLegal own (learned own role f seq) := by
  by_cases same : f.profile = own <;> cases role <;> simp [RecordLegal, learned, stateByProfile, same]

theorem recordLegal_updated {own : Half} {f : StandingFields} {seq : BitVec 8} {r : PeerRecord} (same : f.profile = own) :
    RecordLegal own (updated own f seq r) := by
  cases role : r.role <;> simp [RecordLegal, updated, learned, stateByProfile, same, role]

theorem recordLegal_stored (own : Half) (role : Role) (f : StandingFields) (seq : BitVec 8) (r : PeerRecord) :
    RecordLegal own (stored own role f seq r) := by
  unfold stored
  split
  · next names => exact recordLegal_updated names.2
  · exact recordLegal_learned own role f seq

theorem recordLegal_standingAtSlot {own : Half} {role : Role} {f : StandingFields} {seq : BitVec 8} {slot : Option PeerRecord}
    (h : ∀ r, slot = some r → RecordLegal own r) : RecordLegal own (standingAtSlot own role f seq slot) := by
  unfold standingAtSlot
  split
  · exact recordLegal_learned own role f seq
  · next r =>
    split <;> (try split) <;> first
      | exact recordLegal_stored own role f seq r
      | exact recordLegal_learned own role f seq
      | exact h r rfl

/-- What a DEMAND or an ALERT sets of a record that accepts it keeps it legal. -/
theorem recordLegal_of_accepted {own : Half} {seq : BitVec 8} {r : PeerRecord} (accepted : acceptsValue seq r = true)
    (demand : Option DemandPart) (alert : Option AlertPart) (h : RecordLegal own r) :
    RecordLegal own { r with demand := demand, alert := alert, seq := seq } := by
  obtain ⟨fresh, mismatch, -, axle, exhaust, age⟩ := h
  refine ⟨fresh, mismatch, fun left => ?_, axle, exhaust, age⟩
  obtain left | left := left <;> simp [acceptsValue, show r.state = _ from left] at accepted

theorem recordLegal_leftRecord {own : Half} (seq : BitVec 8) {r : PeerRecord} (h : RecordLegal own r) :
    RecordLegal own (leftRecord seq r) := by
  obtain ⟨-, -, -, axle, exhaust, -⟩ := h
  simpa [RecordLegal, leftRecord] using ⟨axle, exhaust⟩

/-- What arrives at a slot leaves a legal record, or none. -/
theorem recordLegal_arriveAt {own : Half} (stmt : Statement) (seq : BitVec 8) {slot : Option PeerRecord}
    (h : ∀ r, slot = some r → RecordLegal own r) : ∀ r, arriveAt own stmt seq slot = some r → RecordLegal own r := by
  intro r' arrived
  cases stmt with
  | standing f =>
    simp only [arriveAt, takeStandingAt] at arrived
    split at arrived
    · exact h r' arrived
    · obtain rfl := Option.some.inj arrived
      exact recordLegal_standingAtSlot h
  | demand v =>
    obtain ⟨r, slot, rfl⟩ := Option.map_eq_some_iff.mp arrived
    split
    · next accepted => exact recordLegal_of_accepted accepted _ r.alert (h r slot)
    · exact h r slot
  | alert a =>
    obtain ⟨r, slot, rfl⟩ := Option.map_eq_some_iff.mp arrived
    split
    · next accepted => exact recordLegal_of_accepted accepted r.demand _ (h r slot)
    · exact h r slot
  | leave =>
    obtain ⟨r, slot, rfl⟩ := Option.map_eq_some_iff.mp arrived
    split
    · split
      · exact recordLegal_leftRecord seq (h r slot)
      · exact h r slot
    · split
      · exact recordLegal_leftRecord seq (h r slot)
      · exact h r slot
    · exact recordLegal_leftRecord seq (h r slot)
    · exact recordLegal_leftRecord seq (h r slot)

/-- A record one age older, its state apart (R70). -/
def older (r : PeerRecord) : PeerRecord :=
  { r with age := min 255 (r.age + 1), demand := r.demand.map fun p => { p with age := min 255 (p.age + 1) } }

theorem agedRecord_of_fresh (c : Cfg) {r : PeerRecord} (fresh : r.state = .fresh) :
    agedRecord c r
      = some (if c.shared.staleAge ≤ min 255 (r.age + 1) then { older r with state := .stale } else older r) := by
  simp only [agedRecord, fresh, older]

theorem agedRecord_of_not_fresh (c : Cfg) {r : PeerRecord} (other : r.state ≠ .fresh) :
    agedRecord c r = if c.shared.absentAge ≤ min 255 (r.age + 1) then none else some (older r) := by
  cases state : r.state <;> simp_all [agedRecord, older]

theorem recordLegal_older {own : Half} {r : PeerRecord} (h : RecordLegal own r) : RecordLegal own (older r) := by
  obtain ⟨fresh, mismatch, dropped, axle, exhaust, -⟩ := h
  refine ⟨fresh, mismatch, fun left => ?_, axle, exhaust, Nat.min_le_left _ _⟩
  obtain ⟨demand, alert⟩ := dropped left
  exact ⟨by simp [older, demand], alert⟩

theorem recordLegal_agedRecord {own : Half} (c : Cfg) {r r' : PeerRecord} (h : RecordLegal own r)
    (aged : agedRecord c r = some r') : RecordLegal own r' := by
  by_cases fresh : r.state = .fresh
  · rw [agedRecord_of_fresh c fresh, Option.some.injEq] at aged
    subst aged
    split
    · obtain ⟨profile, -, -, axle, exhaust, age⟩ := recordLegal_older h
      exact ⟨fun _ => profile (.inl fresh), by simp, by simp, axle, exhaust, age⟩
    · exact recordLegal_older h
  · rw [agedRecord_of_not_fresh c fresh] at aged
    split at aged
    · cases aged
    · obtain rfl := Option.some.inj aged
      exact recordLegal_older h

/-! ### The legal table -/

theorem tableLegal_of_empty {s : State} (empty : s.pt = PeerTable.empty) : TableLegal s := by
  refine ⟨by rw [empty, slotGet_empty], fun i r slot => ?_, fun _ => empty⟩
  rw [empty, slotGet_empty] at slot
  cases slot

theorem tableLegal_of_operating {s : State} (op : operating s.stc.state = true) (own : slotGet s.pt s.stc.id = none)
    (records : ∀ i r, slotGet s.pt i = some r → RecordLegal s.cfg.profile r) : TableLegal s :=
  ⟨own, records, fun quiet => absurd (quiet.symm.trans op) (by simp)⟩

/-- The station may move to a state in which the table stands. -/
theorem tableLegal_move {s t : State} (pt : t.pt = s.pt) (id : t.stc.id = s.stc.id) (cfg : t.cfg = s.cfg)
    (op : operating t.stc.state = true) (h : TableLegal s) : TableLegal t := by
  obtain ⟨own, records, -⟩ := h
  refine tableLegal_of_operating op ?_ ?_
  · rwa [pt, id]
  · rwa [pt, cfg]

theorem pt_empty_of_config {s : State} (config : s.stc.state = .config) (h : TableLegal s) : s.pt = PeerTable.empty :=
  h.2.2 (by rw [quiet, config]; rfl)

theorem tableLegal_arrives {s : State} {id : Ident} (seq : BitVec 8) (stmt : Statement) (op : operating s.stc.state = true)
    (other : id ≠ s.stc.id) (h : TableLegal s) :
    TableLegal (s.setPt (slotSet s.pt id (arriveAt s.cfg.profile stmt seq (slotGet s.pt id)))) := by
  obtain ⟨own, records, -⟩ := h
  refine tableLegal_of_operating op ?_ fun j r slot => ?_
  · rw [setPt_pt, setPt_stc, slotGet_slotSet_ne _ _ other.symm]
    exact own
  · by_cases same : j = id
    · subst same
      rw [setPt_pt, slotGet_slotSet_self] at slot
      exact recordLegal_arriveAt stmt seq (records j) r slot
    · rw [setPt_pt, slotGet_slotSet_ne _ _ same] at slot
      exact records j r slot

theorem tableLegal_ages {s : State} (h : TableLegal s) : TableLegal (s.setPt (slotsMap (agedSlot s.cfg) s.pt)) := by
  obtain ⟨own, records, empty⟩ := h
  refine ⟨?_, fun i r slot => ?_, fun quiet => ?_⟩
  · rw [setPt_pt, setPt_stc, slotGet_slotsMap, own]
    rfl
  · rw [setPt_pt, slotGet_slotsMap] at slot
    obtain ⟨r0, slot0, aged⟩ := Option.bind_eq_some_iff.mp slot
    exact recordLegal_agedRecord s.cfg (records i r0 slot0) aged
  · rw [setPt_pt, empty quiet]
    rfl

theorem tableLegal_congr {s t : State} (same : SameBlocks s t) (h : TableLegal s) : TableLegal t := by
  unfold TableLegal quiet at *
  rw [same.pt, same.id, same.cfg, same.state]
  exact h

theorem tableLegal_keptByMoves : KeptByMoves TableLegal where
  congr _ _ := tableLegal_congr
  listen _ _ := tableLegal_move rfl rfl rfl rfl
  active _ _ := tableLegal_move (by simp) (by simp) (by simp) (by simp [operating])
  toLocal _ _ := tableLegal_move rfl rfl rfl rfl
  leaving _ _ := tableLegal_move (by simp) (by simp) (by simp) (by simp [operating])
  dupId _ _ _ := tableLegal_of_empty rfl
  invalid _ _ _ := tableLegal_of_empty rfl
  park _ _ _ := tableLegal_of_empty rfl
  wake _ _ := tableLegal_move (by simp) (by simp) (by simp) (by simp [operating])
  inForce _ _ _ _ config _ h := tableLegal_of_empty ((putInForce_pt _ _).trans (pt_empty_of_config config h))
  arrives _ _ seq stmt := tableLegal_arrives seq stmt

theorem work_keeps_tableLegal (i : Instr) (s : State) (h : TableLegal s) : TableLegal (work i s) :=
  work_keeps_of_moves tableLegal_keptByMoves h
    (config := tableLegal_of_empty rfl)
    (reads := fun _ config => tableLegal_of_empty (pt_empty_of_config (s := s) config h))
    (plans := fun _ => h)
    (demands := fun _ _ => h)
    (ages := tableLegal_ages h)
    (sinks := fun _ op => tableLegal_move (by simp) (by simp) (by simp) (by simpa using op) h)
    (heats := fun _ _ => h)
    (adheres := fun _ => by split <;> exact h)
    (eng := fun _ => h) (wheel := fun _ => h) i

/-- Settles O55: every command's work keeps the table legal. -/
theorem peerTableStaysLegal : Obligations.PeerTableStaysLegal :=
  fun _ _ => step_keeps_of_moves tableLegal_keptByMoves work_keeps_tableLegal

end Sys2Proof.Table
end

section
/-! PROOFS. The quiet states (spec/08, R33, R50, R101, R165, R187): CONFIG, PARKED and FAULT hold nothing, only ACTIVE has a plan, and
a cause stands exactly in FAULT. -/

namespace Sys2Proof.Quiet

open Sys2Proof Sys2Proof.Machine Sys2Proof.Commands Sys2Proof.Paths Sys2Proof.Blocks Sys2Proof.Line

/-! ### Plan and cause -/

theorem planLegal_of_idle {s : State} (idle : s.pe = Pe.idle) : PlanLegal s := fun _ => idle

theorem planLegal_of_active {s : State} (active : s.stc.state = .active) : PlanLegal s := fun other => absurd active other

theorem planLegal_keptByMoves : KeptByMoves PlanLegal where
  congr _ _ same h := fun other => same.pe.trans (h (same.state ▸ other))
  listen _ _ _ := planLegal_of_idle rfl
  active _ _ _ := planLegal_of_active (by simp)
  toLocal _ _ _ := planLegal_of_idle rfl
  leaving _ _ _ := planLegal_of_idle (by simp [State.enterLeaving])
  dupId _ _ _ := planLegal_of_idle rfl
  invalid _ _ _ := planLegal_of_idle rfl
  park _ _ _ := planLegal_of_idle rfl
  wake _ _ _ := planLegal_of_idle rfl
  inForce _ _ _ _ _ _ _ := planLegal_of_idle rfl
  arrives _ _ _ _ _ _ h := h

theorem work_keeps_planLegal (i : Instr) (s : State) (h : PlanLegal s) : PlanLegal (work i s) :=
  work_keeps_of_moves planLegal_keptByMoves h
    (config := planLegal_of_idle rfl)
    (reads := fun _ _ => h)
    (plans := fun active => planLegal_of_active active)
    (demands := fun _ _ => h)
    (ages := h)
    (sinks := fun _ _ other => (sinkStages_pe _).trans (h (by simpa using other)))
    (heats := fun _ _ => h)
    (adheres := fun _ => by split <;> exact h)
    (eng := fun _ => h) (wheel := fun _ => h) i

/-- A move between states other than FAULT keeps the cause in step. -/
theorem causeLegal_move {s t : State} (before : s.stc.state ≠ .fault) (after : t.stc.state ≠ .fault)
    (cause : t.stc.cause = s.stc.cause) (h : CauseLegal s) : CauseLegal t := by
  have none : s.stc.cause = .none := by
    by_contra some
    exact before (h.mpr some)
  exact ⟨fun fault => absurd fault after, fun some => absurd (cause.trans none) some⟩

theorem causeLegal_enterFault {cause : FaultCause} (some : cause ≠ .none) (s : State) : CauseLegal (s.enterFault cause) :=
  ⟨fun _ => some, fun _ => rfl⟩

theorem not_fault_of_operating {s : State} (op : operating s.stc.state = true) : s.stc.state ≠ .fault := by
  intro fault
  rw [fault] at op
  cases op

theorem causeLegal_congr {s t : State} (state : t.stc.state = s.stc.state) (cause : t.stc.cause = s.stc.cause)
    (h : CauseLegal s) : CauseLegal t := by
  unfold CauseLegal at *
  rw [state, cause]
  exact h

theorem causeLegal_keptByMoves : KeptByMoves CauseLegal where
  congr _ _ same := causeLegal_congr same.state same.cause
  listen _ state := causeLegal_move (by simp [state]) (by simp) rfl
  active _ state := causeLegal_move (by simp [state]) (by simp) (by simp)
  toLocal _ state := causeLegal_move (by obtain state | state := state <;> simp [state]) (by simp) rfl
  leaving _ state := causeLegal_move (by simp [state]) (by simp) (by simp)
  dupId s _ _ := causeLegal_enterFault (by simp) s
  invalid s _ _ := causeLegal_enterFault (by simp) s
  park _ op := causeLegal_move (not_fault_of_operating op) (by simp) rfl
  wake _ state := causeLegal_move (by simp [state]) (by simp) (by simp)
  inForce _ _ _ _ state _ := causeLegal_move (by simp [state]) (by simp [Memory.putInForce_stc])
    (by simp [Memory.putInForce_stc])
  arrives _ _ _ _ _ _ h := h

theorem work_keeps_causeLegal (i : Instr) (s : State) (h : CauseLegal s) : CauseLegal (work i s) :=
  work_keeps_of_moves causeLegal_keptByMoves h
    (config := by simp [CauseLegal, State.enterConfig, State.reset, Stc.powerOn])
    (reads := fun _ _ => h)
    (plans := fun _ => h)
    (demands := fun _ _ => h)
    (ages := h)
    (sinks := fun _ _ => causeLegal_congr (by simp) (by simp) h)
    (heats := fun _ _ => h)
    (adheres := fun _ => by split <;> exact h)
    (eng := fun _ => h) (wheel := fun _ => h) i

/-! ### The quiet states -/

/-- Of the quiet states, what the line shows: nothing sent, held or received, and no hold or count running. -/
def QuietLine (s : State) : Prop :=
  quiet s →
    s.lp.tx = none ∧ s.lp.rx = .disarmed
      ∧ s.stx.urgent = .empty ∧ s.stx.demand = .empty ∧ s.stx.standing = .empty ∧ s.stx.queue = []
      ∧ s.stc.warnHold = 0 ∧ s.stc.ignOffCount = 0

/-- Of the quiet states, what PE and DU hold. -/
def QuietBlocks (s : State) : Prop := quiet s → s.pe = Pe.idle ∧ s.du = duCleared s.du

theorem quietLegal_iff (s : State) : QuietLegal s ↔ QuietLine s ∧ QuietBlocks s := by
  unfold QuietLegal QuietLine QuietBlocks
  constructor
  · intro h
    refine ⟨fun quiet => ?_, fun quiet => ?_⟩ <;>
      obtain ⟨tx, rx, urgent, demand, standing, queue, pe, du, warnHold, ignOff⟩ := h quiet
    · exact ⟨tx, rx, urgent, demand, standing, queue, warnHold, ignOff⟩
    · exact ⟨pe, du⟩
  · rintro ⟨line, blocks⟩ quiet
    obtain ⟨tx, rx, urgent, demand, standing, queue, warnHold, ignOff⟩ := line quiet
    obtain ⟨pe, du⟩ := blocks quiet
    exact ⟨tx, rx, urgent, demand, standing, queue, pe, du, warnHold, ignOff⟩

theorem not_quiet_of_operating {s : State} (op : operating s.stc.state = true) : ¬quiet s :=
  fun quiet => absurd (quiet.symm.trans op) (by simp)

theorem operating_of_demandRuns {state : StationState} (runs : demandRuns state = true) : operating state = true := by
  cases state <;> first | rfl | cases runs

theorem quietBlocks_of_operating {s : State} (op : operating s.stc.state = true) : QuietBlocks s :=
  fun quiet => absurd quiet (not_quiet_of_operating op)

theorem quietBlocks_congr {s t : State} (state : t.stc.state = s.stc.state) (pe : t.pe = s.pe) (du : t.du = s.du)
    (h : QuietBlocks s) : QuietBlocks t := by
  unfold QuietBlocks quiet at *
  rw [state, pe, du]
  exact h

theorem quietBlocks_keptByMoves : KeptByMoves QuietBlocks where
  congr _ _ same := quietBlocks_congr same.state same.pe same.du
  listen _ _ _ := quietBlocks_of_operating rfl
  active _ _ _ := quietBlocks_of_operating (by simp [operating])
  toLocal _ _ _ := quietBlocks_of_operating rfl
  leaving _ _ _ := quietBlocks_of_operating (by simp [operating])
  dupId _ _ _ := fun _ => ⟨rfl, rfl⟩
  invalid _ _ _ := fun _ => ⟨rfl, rfl⟩
  park _ _ _ := fun _ => ⟨rfl, rfl⟩
  wake _ _ _ := quietBlocks_of_operating (by simp [operating])
  inForce _ _ _ _ _ _ _ := quietBlocks_of_operating (by simp [Memory.putInForce_stc, operating])
  arrives _ _ _ _ _ _ h := h

theorem work_keeps_quietBlocks (i : Instr) (s : State) (h : QuietBlocks s) : QuietBlocks (work i s) :=
  work_keeps_of_moves quietBlocks_keptByMoves h
    (config := fun _ => ⟨rfl, rfl⟩)
    (reads := fun _ _ => h)
    (plans := fun active => quietBlocks_of_operating (by simp [active, operating]))
    (demands := fun _ runs => quietBlocks_of_operating (operating_of_demandRuns runs))
    (ages := h)
    (sinks := fun _ op => quietBlocks_of_operating (by simpa using op))
    (heats := fun _ _ => h)
    (adheres := fun _ => by split <;> exact h)
    (eng := fun _ => h) (wheel := fun _ => h) i

theorem quietLine_of_operating {s : State} (op : operating s.stc.state = true) : QuietLine s :=
  fun quiet => absurd quiet (not_quiet_of_operating op)

theorem quietLine_congr {s t : State} (stc : t.stc = s.stc) (stx : t.stx = s.stx) (lp : t.lp = s.lp) (h : QuietLine s) :
    QuietLine t := by
  unfold QuietLine quiet at *
  rw [stc, stx, lp]
  exact h

theorem quietLine_offerAlert (s : State) (a : Alert) (h : QuietLine s) : QuietLine (s.offerAlert a) := by
  cases taken : alertsTaken s.stc.state
  · rwa [offerAlert_discarded a taken]
  · refine quietLine_of_operating ?_
    rw [offerAlert_stc]
    cases state : s.stc.state <;> rw [state] at taken <;> first | rfl | cases taken

theorem quietLine_enterFault (cause : FaultCause) (s : State) : QuietLine (s.enterFault cause) :=
  fun _ => ⟨rfl, rfl, rfl, rfl, rfl, rfl, rfl, rfl⟩

theorem quietLine_park (s : State) : QuietLine s.park := fun _ => ⟨rfl, rfl, rfl, rfl, rfl, rfl, rfl, rfl⟩

theorem quietLine_enterParked (s : State) : QuietLine s.enterParked :=
  enterParked_keeps (quietLine_park s) (quietLine_of_operating (by simp [operating]))

theorem quietLine_leaveReported {s : State} (gone : Bool) (op : operating s.stc.state = true) :
    QuietLine (s.leaveReported gone) := by
  obtain ⟨same, -⟩ | ⟨-, -, parks⟩ := leaveReported_cases s gone
  · exact same.symm ▸ quietLine_of_operating op
  · exact parks.symm ▸ quietLine_enterParked s

theorem quietLine_attemptFailed {s : State} (cls : SlotClass) (op : operating s.stc.state = true) :
    QuietLine (s.attemptFailed cls) := by
  obtain ⟨same, -⟩ | ⟨held, followUp, noRetry, sending⟩ := attemptFailed_cases s cls
  · exact same.symm ▸ quietLine_of_operating op
  · have settles : operating (settled s cls held followUp noRetry).stc.state = true := by simpa [settled] using op
    rw [attemptFailed_of_sending sending]
    apply quietLine_leaveReported
    split
    · exact operating_countLp _ settles
    · exact settles

theorem quietLine_frameCompleted {s : State} (cls : SlotClass) (op : operating s.stc.state = true) :
    QuietLine (s.frameCompleted cls) := by
  obtain ⟨same, -⟩ | ⟨held, followUp, noRetry, sending⟩ := frameCompleted_cases s cls
  · exact same.symm ▸ quietLine_of_operating op
  · rw [frameCompleted_of_sending sending]
    exact quietLine_leaveReported _ (by simpa using op)

theorem quietLine_readBack {s : State} (f : TxFrame) (read : Option Character) (op : operating s.stc.state = true) :
    QuietLine (s.readBack f read) := by
  obtain ⟨-, -, next⟩ | ⟨-, -, completed⟩ | ⟨-, collided⟩ := readBack_cases s f read
  · exact next.symm ▸ quietLine_of_operating op
  · exact completed.symm ▸ quietLine_frameCompleted (s := s.setLp (lpFrameEnds .completed read s.lp)) f.cls op
  · exact collided.symm ▸ quietLine_attemptFailed (s := s.setLp (lpFrameEnds .collided read s.lp)) f.cls op

theorem quietLine_characterArrives {s : State} (c : Character) (own completed : Bool) (op : operating s.stc.state = true) :
    QuietLine (s.characterArrives c own completed) := by
  have counted (lp : Lp) : operating ((s.setRx .hunting).countLp lp).stc.state = true := operating_countLp lp op
  apply characterArrives_keeps
  · exact fun _ _ _ => quietLine_of_operating op
  · exact fun _ => quietLine_of_operating op
  · exact quietLine_of_operating (counted _)
  · exact quietLine_enterFault _ _
  · intro bytes _
    refine quietLine_of_operating ?_
    rw [(Transitions.handOn_stays _ bytes).1]
    exact counted _

/-- No frame starts in a quiet state (R93). -/
theorem quietLine_tryStart {s : State} (elapsed : Nat) (h : QuietLine s) : QuietLine (s.tryStart elapsed) := by
  unfold State.tryStart
  split
  · split
    · next starts =>
      refine quietLine_of_operating ?_
      obtain state | ⟨state, -⟩ := (Frames.mayStart_iff _ _).mp starts.2.1 <;> simp [State.startFrame, state, operating]
    · exact h
  · exact h

theorem quietLine_stationWork {s : State} (h : QuietLine s) : QuietLine s.stationWork := by
  have op {u : State} (op : operating u.stc.state = true) : QuietLine u := quietLine_of_operating op
  unfold State.stationWork
  split
  · exact h
  · exact h
  · next listen =>
    exact listenWork_keeps (op (by simp [listen, operating])) (fun _ => op rfl) fun _ => op (by simp [operating])
  · next active =>
    exact ignitionWork_keeps (op (by simp [active, operating])) (fun _ => op (by simp [operating])) fun _ _ => quietLine_park _
  · next localOnly =>
    exact ignitionWork_keeps (op (by simp [localOnly, operating])) (fun _ => op (by simp [operating])) fun _ _ => quietLine_park _
  · next leaving => exact leavingWork_keeps (op (by simp [leaving, operating])) (quietLine_enterParked _)
  · exact parkedWork_keeps h (op (by simp [operating]))

theorem quietLine_warnCountdown {s : State} (h : QuietLine s) : QuietLine s.warnCountdown := by
  unfold State.warnCountdown
  split
  · next op => exact quietLine_of_operating op
  · exact h

theorem work_keeps_quietLine (i : Instr) (s : State) (h : QuietLine s) : QuietLine (work i s) :=
  work_keeps_of_line (P := QuietLine)
    (congr := fun _ _ line => quietLine_congr line.1 line.2.1 line.2.2)
    (offers := quietLine_offerAlert) h
    (config := fun _ => ⟨rfl, rfl, rfl, rfl, rfl, rfl, rfl, rfl⟩)
    (reads := fun _ _ => h)
    (ends := fun miso _ => transactionEnds_keeps miso h (fun _ => h) (quietLine_enterFault _ _)
      fun _ _ _ _ => quietLine_of_operating (by simp [Memory.putInForce_stc, operating]))
    (forms := fun _ _ _ active => quietLine_of_operating (by simp [active, operating]))
    (evaluates := fun ign => quietLine_stationWork (quietLine_warnCountdown (s := s.latchIgn ign) h))
    (ticks := fun _ => h)
    (frees := fun op => quietLine_of_operating op)
    (starts := fun elapsed => quietLine_tryStart elapsed h)
    (readsBack := fun f read ign sends => by
      refine quietLine_readBack f read (Bool.not_eq_false _ ▸ fun quiet => ?_)
      cases sends.symm.trans (h quiet).1)
    (receives := fun c own completed op =>
      quietLine_characterArrives (s := s.setLp { s.lp with tail := .none }) c own completed op)
    (startBit := fun op => quietLine_of_operating op) i

theorem work_keeps_quietLegal (i : Instr) (s : State) (h : QuietLegal s) : QuietLegal (work i s) := by
  obtain ⟨line, blocks⟩ := (quietLegal_iff s).mp h
  exact (quietLegal_iff _).mpr ⟨work_keeps_quietLine i s line, work_keeps_quietBlocks i s blocks⟩

/-- Settles O56: three invariants, each kept by every command's work. -/
theorem quietStatesHoldNothing : Obligations.QuietStatesHoldNothing := fun _ _ taken =>
  ⟨fun h => step_keeps (fun _ => id) (fun _ _ => id) work_keeps_quietLegal h taken,
    fun h => step_keeps_of_moves planLegal_keptByMoves work_keeps_planLegal h taken,
    fun h => step_keeps_of_moves causeLegal_keptByMoves work_keeps_causeLegal h taken⟩

end Sys2Proof.Quiet
end

section
/-! PROOFS. The demand in its ranges (spec/02), and the command and the sink state (spec/07), which every step keeps. -/

namespace Sys2Proof.DemandAndCommand

open Sys2Proof Sys2Proof.Machine Sys2Proof.Commands Sys2Proof.Paths Sys2Proof.Blocks

/-! ### The driver values and the hold -/

/-- The driver values in their ranges (R35 to R44). -/
def DriverRanges (du : Du) : Prop :=
  du.own ≤ 2047 ∧ du.integral ≤ 2047 ∧ du.holdDemand ≤ 2047 ∧ du.stalk ≤ 5 ∧ du.invalidCount ≤ 255

theorem stalkNext_ranges (c : Cfg) (code : Nat) {du : Du} (h : du.stalk ≤ 5) :
    (stalkNext c code du).stalk ≤ 5 ∧ (stalkNext c code du).invalidCount ≤ 255 := by
  unfold stalkNext
  split
  · next valid => exact ⟨valid, Nat.zero_le _⟩
  · refine ⟨?_, Nat.min_le_left _ _⟩
    simp only []
    split
    · exact Nat.zero_le _
    · exact h

theorem stalkNext_kept (c : Cfg) (code : Nat) (du : Du) :
    stalkNext c code du
      = { du with stalk := (stalkNext c code du).stalk, invalidCount := (stalkNext c code du).invalidCount } := by
  unfold stalkNext
  split <;> rfl

/-- The speed hold sets its own four values and no other (R40 to R43). -/
theorem holdNext_kept (c : Cfg) (h : HoldInputs) (previous : Nat) (du : Du) :
    holdNext c h previous du
      = { du with
          hold := (holdNext c h previous du).hold, target := (holdNext c h previous du).target
          integral := (holdNext c h previous du).integral, holdDemand := (holdNext c h previous du).holdDemand } := by
  unfold holdNext holdStep holdLatch
  split <;> split <;> (try split) <;> (try split) <;> rfl

theorem integralNext_le (c : Cfg) (barred : Bool) (e : Int) {i : Nat} (h : i ≤ 2047) : integralNext c barred e i ≤ 2047 := by
  unfold integralNext
  simp only []
  split
  · exact h
  · exact clampNat_le _ _

theorem holdNext_ranges (c : Cfg) (h : HoldInputs) (previous : Nat) {du : Du} (integral : du.integral ≤ 2047) :
    (holdNext c h previous du).integral ≤ 2047 ∧ (holdNext c h previous du).holdDemand ≤ 2047 := by
  have latched (v : Nat) : (holdLatch v du).integral ≤ 2047 ∧ (holdLatch v du).holdDemand ≤ 2047 :=
    ⟨Nat.min_le_left _ _, Nat.min_le_left _ _⟩
  have stepped : (holdStep c h du).integral ≤ 2047 ∧ (holdStep c h du).holdDemand ≤ 2047 := by
    unfold holdStep
    split
    · exact ⟨integralNext_le c _ _ integral, clampNat_le _ _⟩
    · exact ⟨integral, Nat.zero_le _⟩
  unfold holdNext
  split
  · split
    · split
      · exact ⟨integral, Nat.zero_le _⟩
      · split
        · exact latched _
        · exact ⟨integral, Nat.zero_le _⟩
    · split
      · exact latched _
      · exact ⟨integral, Nat.zero_le _⟩
    · exact stepped
  · split
    · exact ⟨integral, Nat.zero_le _⟩
    · exact ⟨Nat.zero_le _, Nat.zero_le _⟩
    · exact ⟨Nat.zero_le _, Nat.zero_le _⟩

theorem channelDemand_le (c : Cfg) (p : Nat) : channelDemand c p ≤ 2047 := clampNat_le _ _

theorem pedalDemand_le (c : Cfg) (pa pb : Nat) : (pedalDemand c pa pb).getD 0 ≤ 2047 := by
  have a := channelDemand_le c pa
  have b := channelDemand_le c pb
  unfold pedalDemand
  split <;> simp [*]

theorem stalkDemandOf_le (c : Cfg) (code : Nat) : stalkDemandOf c code ≤ 2047 := by
  unfold stalkDemandOf
  split <;> first | exact Nat.min_le_right _ _ | exact Nat.zero_le _

/-- The same D and the same loss phase. -/
def SameMerge (a b : Du) : Prop := a.d = b.d ∧ a.phase = b.phase ∧ a.lossCount = b.lossCount

theorem stalkNext_sameMerge (c : Cfg) (code : Nat) (du : Du) : SameMerge (stalkNext c code du) du := by
  rw [stalkNext_kept]
  exact ⟨rfl, rfl, rfl⟩

theorem holdNext_sameMerge (c : Cfg) (h : HoldInputs) (previous : Nat) (du : Du) :
    SameMerge (holdNext c h previous du) du := by
  rw [holdNext_kept]
  exact ⟨rfl, rfl, rfl⟩

/-- The driver stages leave D and its phase to the merge. -/
theorem driverStages_sameMerge (c : Cfg) (h : HoldInputs) (pa pb stk : Nat) (du : Du) :
    SameMerge (driverStages c h pa pb stk du) du := by
  obtain ⟨d, phase, lossCount⟩ := stalkNext_sameMerge c stk du
  obtain ⟨d', phase', lossCount'⟩ :=
    holdNext_sameMerge c h du.stalk { stalkNext c stk du with pedal := pedalConditionOf c pa pb }
  exact ⟨d'.trans d, phase'.trans phase, lossCount'.trans lossCount⟩

theorem driverStages_ranges (c : Cfg) (h : HoldInputs) (pa pb stk : Nat) {du : Du} (ranges : DriverRanges du) :
    DriverRanges (driverStages c h pa pb stk du) := by
  obtain ⟨-, integral, -, stalk, -⟩ := ranges
  let du2 : Du := { stalkNext c stk du with pedal := pedalConditionOf c pa pb }
  have integral2 : du2.integral ≤ 2047 := by
    simp only [du2]
    rw [stalkNext_kept]
    exact integral
  obtain ⟨integral3, holdDemand3⟩ := holdNext_ranges c h du.stalk integral2
  obtain ⟨stalk2, invalid2⟩ := stalkNext_ranges c stk stalk
  have kept := holdNext_kept c h du.stalk du2
  have stalk3 : (holdNext c h du.stalk du2).stalk = du2.stalk := by rw [kept]
  have invalid3 : (holdNext c h du.stalk du2).invalidCount = du2.invalidCount := by rw [kept]
  refine ⟨?_, integral3, holdDemand3, stalk3.trans_le stalk2, invalid3.trans_le invalid2⟩
  exact Nat.max_le.mpr ⟨pedalDemand_le c pa pb, Nat.max_le.mpr ⟨stalkDemandOf_le c _, holdDemand3⟩⟩

theorem ownStages_sameMerge (s : State) : SameMerge (ownStages s) s.du := by
  unfold ownStages
  split
  · exact driverStages_sameMerge _ _ _ _ _ _
  · exact ⟨rfl, rfl, rfl⟩

theorem ownStages_ranges {s : State} (ranges : DriverRanges s.du) : DriverRanges (ownStages s) := by
  unfold ownStages
  split
  · exact driverStages_ranges _ _ _ _ _ ranges
  · exact ranges

/-! ### The merge -/

/-- The merge sets D, the phase and the loss count and no other (R46 to R48). -/
theorem mergeNext_kept (c : Cfg) (t : PeerTable) (du : Du) :
    mergeNext c t du
      = { du with
          d := (mergeNext c t du).d, phase := (mergeNext c t du).phase, lossCount := (mergeNext c t du).lossCount } := by
  unfold mergeNext rampDown
  split
  · rfl
  · split <;> (try split) <;> rfl

theorem mergeStage_kept (s : State) (du : Du) :
    mergeStage s du
      = { du with d := (mergeStage s du).d, phase := (mergeStage s du).phase, lossCount := (mergeStage s du).lossCount } := by
  unfold mergeStage
  split
  · rfl
  · exact mergeNext_kept _ _ _

theorem le_of_mem_peerDemands {c : Cfg} {t : PeerTable} {v : Nat} (h : v ∈ peerDemands c t) : v ≤ 2047 := by
  obtain ⟨i, -, hv⟩ := List.mem_filterMap.mp h
  unfold peerDemand at hv
  split at hv
  · split at hv
    · split at hv
      · obtain rfl := Option.some.inj hv
        exact Nat.min_le_right _ _
      · cases hv
    · cases hv
  · cases hv

theorem le_of_mem_contributions {c : Cfg} {t : PeerTable} {own v : Nat} (own_le : own ≤ 2047)
    (h : v ∈ contributions c t own) : v ≤ 2047 := by
  obtain h | h := List.mem_append.mp h
  · split at h
    · obtain rfl := List.mem_singleton.mp h
      exact own_le
    · cases h
  · exact le_of_mem_peerDemands h

/-- The largest of a list, from a start on: it is the start or a member, and none is above it. -/
theorem foldl_max_spec (xs : List Nat) (start : Nat) :
    (xs.foldl max start = start ∨ xs.foldl max start ∈ xs) ∧ start ≤ xs.foldl max start
      ∧ ∀ x ∈ xs, x ≤ xs.foldl max start := by
  induction xs generalizing start with
  | nil => exact ⟨.inl rfl, le_rfl, by simp⟩
  | cons y ys ih =>
    obtain ⟨attained, start_le, members_le⟩ := ih (max start y)
    refine ⟨?_, (le_max_left _ _).trans start_le, ?_⟩
    · obtain h | h := attained
      · obtain m | m := max_choice start y
        · exact .inl (h.trans m)
        · exact .inr (List.mem_cons.mpr (.inl (h.trans m)))
      · exact .inr (List.mem_cons_of_mem _ h)
    · intro x hx
      obtain rfl | hx := List.mem_cons.mp hx
      · exact (le_max_right _ _).trans start_le
      · exact members_le x hx

theorem foldl_max_zero_mem {xs : List Nat} (ne : xs ≠ []) : xs.foldl max 0 ∈ xs := by
  obtain ⟨h | h, -, le⟩ := foldl_max_spec xs 0
  · obtain ⟨x, rest, rfl⟩ := List.exists_cons_of_ne_nil ne
    have zero := le x (by simp)
    rw [h] at zero ⊢
    rw [Nat.le_zero.mp zero]
    simp
  · exact h

theorem rampDown_legal (c : Cfg) {du : Du} (d : du.d ≤ 2047) :
    (rampDown c du).d ≤ 2047 ∧ ((rampDown c du).phase = .unsourced → (rampDown c du).d = 0) := by
  refine ⟨(Nat.sub_le _ _).trans d, fun unsourced => ?_⟩
  simp only [rampDown] at unsourced ⊢
  by_contra positive
  rw [if_neg positive] at unsourced
  cases unsourced

theorem mergeNext_legal (c : Cfg) (t : PeerTable) {du : Du} (own : du.own ≤ 2047) (d : du.d ≤ 2047)
    (unsourced : du.phase = .unsourced → du.d = 0) :
    (mergeNext c t du).d ≤ 2047 ∧ ((mergeNext c t du).phase = .unsourced → (mergeNext c t du).d = 0) := by
  unfold mergeNext
  split
  · next x rest contributes =>
    refine ⟨?_, by simp⟩
    refine le_of_mem_contributions (c := c) (t := t) own ?_
    rw [contributes]
    exact foldl_max_zero_mem (by simp)
  · split
    · exact ⟨d, unsourced⟩
    · exact ⟨d, by simp⟩
    · split
      · next holding _ => exact ⟨d, by simp [holding]⟩
      · exact rampDown_legal c d
    · exact rampDown_legal c d

/-! ### The demand stays legal -/

theorem demandLegal_iff (s : State) :
    DemandLegal s ↔ DriverRanges s.du ∧ s.du.d ≤ 2047 ∧ (s.du.phase = .unsourced → s.du.d = 0)
      ∧ (s.stc.state = .localOnly → s.du.d = 0 ∧ s.du.phase = .unsourced)
      ∧ (s.stc.state = .config → s.du = Du.powerOn)
      ∧ (s.isSource = false → s.stc.state ≠ .config →
          s.du.pedal = .clear ∧ s.du.stalk = 0 ∧ s.du.hold = .off ∧ s.du.own = 0) := by
  unfold DemandLegal DriverRanges
  tauto

theorem driverRanges_zero (du : Du) : DriverRanges (duCleared du) := by
  simp [DriverRanges, duCleared, Du.powerOn]

theorem demandLegal_congr {s t : State} (state : t.stc.state = s.stc.state) (cfg : t.cfg = s.cfg) (du : t.du = s.du)
    (h : DemandLegal s) : DemandLegal t := by
  unfold DemandLegal State.isSource at *
  rw [state, cfg, du]
  exact h

/-- DU cleared is legal in every state but CONFIG (R50). -/
theorem demandLegal_of_cleared {s : State} {du : Du} (cleared : s.du = duCleared du) (other : s.stc.state ≠ .config) :
    DemandLegal s := by
  rw [demandLegal_iff, cleared]
  exact ⟨driverRanges_zero du, Nat.zero_le _, fun _ => rfl, fun _ => ⟨rfl, rfl⟩, fun config => absurd config other,
    fun _ _ => ⟨rfl, rfl, rfl, rfl⟩⟩

theorem demandLegal_of_powerOn {s : State} (powerOn : s.du = Du.powerOn) : DemandLegal s := by
  rw [demandLegal_iff, powerOn]
  exact ⟨driverRanges_zero Du.powerOn, Nat.zero_le _, fun _ => rfl, fun _ => ⟨rfl, rfl⟩, fun _ => rfl,
    fun _ _ => ⟨rfl, rfl, rfl, rfl⟩⟩

/-- A move out of a configured state, but not to LOCAL or CONFIG, leaves the demand legal. -/
theorem demandLegal_move {s t : State} (cfg : t.cfg = s.cfg) (du : t.du = s.du) (before : s.stc.state ≠ .config)
    (toLocal : t.stc.state ≠ .localOnly) (toConfig : t.stc.state ≠ .config) (h : DemandLegal s) : DemandLegal t := by
  obtain ⟨ranges, d, unsourced, -, -, clear⟩ := (demandLegal_iff s).mp h
  rw [demandLegal_iff, du]
  refine ⟨ranges, d, unsourced, fun state => absurd state toLocal, fun state => absurd state toConfig, fun source _ => ?_⟩
  exact clear (by rwa [State.isSource, cfg] at source) before

theorem demandLegal_enterLocal {s : State} (before : s.stc.state ≠ .config) (h : DemandLegal s) :
    DemandLegal s.enterLocal := by
  obtain ⟨ranges, -, -, -, -, clear⟩ := (demandLegal_iff s).mp h
  exact (demandLegal_iff _).mpr ⟨ranges, Nat.zero_le _, fun _ => rfl, fun _ => ⟨rfl, rfl⟩, by simp,
    fun source _ => clear source before⟩

theorem demandLegal_keptByMoves : KeptByMoves DemandLegal where
  congr _ _ same := demandLegal_congr same.state same.cfg same.du
  listen _ state := demandLegal_move rfl rfl (by simp [state]) (by simp) (by simp)
  active _ state := demandLegal_move (by simp) (by simp) (by simp [state]) (by simp) (by simp)
  toLocal _ state := demandLegal_enterLocal (by obtain state | state := state <;> simp [state])
  leaving s _ _ := demandLegal_of_cleared (du := s.du) (by simp [State.enterLeaving]) (by simp)
  dupId s _ _ := demandLegal_of_cleared (du := s.du) rfl (by simp)
  invalid s _ _ := demandLegal_of_cleared (du := s.du) rfl (by simp)
  park s _ _ := demandLegal_of_cleared (du := s.du) rfl (by simp)
  wake _ state := demandLegal_move (by simp) (by simp) (by simp [state]) (by simp) (by simp)
  inForce _ _ _ _ config _ h := by
    obtain ⟨-, -, -, -, powerOn, -⟩ := (demandLegal_iff _).mp h
    exact demandLegal_of_powerOn ((putInForce_du _ _).trans (powerOn config))
  arrives _ _ _ _ _ _ h := h

theorem ownStages_of_not_source {s : State} (source : s.isSource = false) : ownStages s = s.du :=
  if_neg (by simp [source])

/-- DU's evaluation leaves a legal demand (R34 to R48). -/
theorem demandLegal_evaluated {s : State} (runs : demandRuns s.stc.state = true) (h : DemandLegal s) :
    DemandLegal (s.setDu (mergeStage s (ownStages s))) := by
  obtain ⟨ranges, d, unsourced, inLocal, -, clear⟩ := (demandLegal_iff s).mp h
  obtain ⟨d_kept, phase_kept, -⟩ := ownStages_sameMerge s
  have ownRanges := ownStages_ranges ranges
  have merged := mergeStage_kept s (ownStages s)
  have notConfig : s.stc.state ≠ .config := by
    intro config
    rw [config] at runs
    cases runs
  have legal : (mergeStage s (ownStages s)).d ≤ 2047
      ∧ ((mergeStage s (ownStages s)).phase = .unsourced → (mergeStage s (ownStages s)).d = 0) := by
    have own_d : (ownStages s).d ≤ 2047 := d_kept.trans_le d
    have own_unsourced : (ownStages s).phase = .unsourced → (ownStages s).d = 0 :=
      fun phase => d_kept.trans (unsourced (phase_kept.symm.trans phase))
    unfold mergeStage
    split
    · exact ⟨own_d, own_unsourced⟩
    · exact mergeNext_legal _ _ ownRanges.1 own_d own_unsourced
  rw [demandLegal_iff, setDu_du]
  refine ⟨?_, legal.1, legal.2, fun state => ?_, fun config => absurd config notConfig, fun source _ => ?_⟩
  · rw [merged]
    exact ownRanges
  · have skipped : mergeStage s (ownStages s) = ownStages s := if_pos state
    rw [skipped, d_kept, phase_kept]
    exact inLocal state
  · rw [merged, ownStages_of_not_source (s := s) source]
    exact clear source notConfig

theorem work_keeps_demandLegal (i : Instr) (s : State) (h : DemandLegal s) : DemandLegal (work i s) :=
  work_keeps_of_moves demandLegal_keptByMoves h
    (config := demandLegal_of_powerOn rfl)
    (reads := fun _ _ => h)
    (plans := fun _ => h)
    (demands := fun inp runs => demandLegal_evaluated (s := s.setInp inp) runs h)
    (ages := h)
    (sinks := fun _ _ => demandLegal_congr (by simp) (by simp) (by simp) h)
    (heats := fun _ _ => h)
    (adheres := fun _ => by split <;> exact h)
    (eng := fun _ => h) (wheel := fun _ => h) i

/-! ### The stages of a sink expiry -/

/-- SC after the entry to DEGRADED (R151). -/
def scDegraded (cause : DegradedCause) (sc : Sc) : Sc :=
  { sc with degraded := true, cause := cause, c := 0, kNow := 0, riseHold := 0 }

theorem degrade_eq (cause : DegradedCause) (s : State) :
    s.degrade cause
      = (s.setSc (scDegraded cause s.sc)).offerAlert (mkAlert .sinkDegraded s.stc.id (causeCode cause)) := rfl

theorem degrade_sc (cause : DegradedCause) (s : State) : (s.degrade cause).sc = scDegraded cause s.sc := by
  rw [degrade_eq, offerAlert_sc, setSc_sc]

theorem sameBlocks_degrade (cause : DegradedCause) (s : State) :
    SameBlocks (s.setSc (scDegraded cause s.sc)) (s.degrade cause) :=
  sameBlocks_offer _ (some _)

/-- What every stage keeps a sink expiry keeps. -/
theorem sinkStages_keeps {P : State → Prop} (congr : ∀ s t, SameBlocks s t → P s → P t)
    (closes : ∀ s, P s → P s.closeWindows) (temperature : ∀ s, P s → P s.temperatureStage)
    (degrades : ∀ s cause, cause ≠ .none → P s → P (s.setSc (scDegraded cause s.sc)))
    (forms : ∀ s, P s → P s.formCapacity) (takes : ∀ s, P s → P s.takeStage)
    (counts : ∀ s n, P s → P (s.setSc { s.sc with supCount := n })) (commands : ∀ s, P s → P s.commandStage)
    {s : State} (h : P s) : P s.sinkStages := by
  have degraded (s : State) (cause : DegradedCause) (some : cause ≠ .none) (h : P s) : P (s.degrade cause) :=
    congr _ _ (sameBlocks_degrade cause s) (degrades s cause some h)
  have feedback (s : State) (h : P s) : P s.feedbackStage := by
    unfold State.feedbackStage
    split
    · next fault => exact degraded s _ fault.2 h
    · exact h
  have supervision (s : State) (h : P s) : P s.supervisionStage := by
    unfold State.supervisionStage
    split
    · exact counts s _ h
    · simp only []
      split
      · exact forms _ (degraded _ _ (by simp) (counts s _ h))
      · exact counts s _ h
  exact commands _ (supervision _ (takes _ (forms _ (feedback _ (temperature _ (closes _ h))))))

theorem tempHoldNext_kept (c : Cfg) (r : Nat) (sc : Sc) :
    tempHoldNext c r sc
      = { sc with tempHoldCount := (tempHoldNext c r sc).tempHoldCount, tempHold := (tempHoldNext c r sc).tempHold } := by
  unfold tempHoldNext
  split <;> rfl

/-- The temperature stage leaves command, step and sink state alone. -/
theorem temperatureStage_sc (s : State) :
    s.temperatureStage.sc
      = { s.sc with tempHoldCount := s.temperatureStage.sc.tempHoldCount, tempHold := s.temperatureStage.sc.tempHold } := by
  unfold State.temperatureStage
  split
  · rfl
  · exact tempHoldNext_kept _ _ _

/-! ### The command (R142 to R146) -/

theorem commandLegal_of_zero {s : State} (c : s.sc.c = 0) (k : s.sc.kNow = 0) : CommandLegal s :=
  ⟨fun _ _ => ⟨c, k⟩, fun _ => ⟨c, k⟩⟩

theorem commandLegal_congr {s t : State} (state : t.stc.state = s.stc.state) (c : t.sc.c = s.sc.c)
    (k : t.sc.kNow = s.sc.kNow) (degraded : t.sc.degraded = s.sc.degraded) (h : CommandLegal s) : CommandLegal t := by
  unfold CommandLegal at *
  rw [state, c, k, degraded]
  exact h

/-- Into a state that commands, a command of 0 under a DEGRADED sink is all that is asked. -/
theorem commandLegal_of_commanding {s : State} (state : s.stc.state = .active ∨ s.stc.state = .localOnly)
    (degraded : s.sc.degraded = true → s.sc.c = 0 ∧ s.sc.kNow = 0) : CommandLegal s :=
  ⟨fun active localOnly => by obtain state | state := state <;> contradiction, degraded⟩

theorem scLocal_degraded {s : State} (h : s.sc.c = 0 ∧ s.sc.kNow = 0) : (scLocal s).c = 0 ∧ (scLocal s).kNow = 0 := by
  unfold scLocal
  split
  · exact ⟨by simp [h.1], h.2⟩
  · exact ⟨rfl, rfl⟩

theorem scLocal_sink_state (s : State) : (scLocal s).degraded = s.sc.degraded ∧ (scLocal s).cause = s.sc.cause := by
  unfold scLocal
  split <;> exact ⟨rfl, rfl⟩

theorem enterActive_sc (s : State) : s.enterActive.sc = { s.sc with supCount := 0 } := by simp [State.enterActive]

theorem enterLeaving_sc (s : State) : s.enterLeaving.sc = scReleased s.sc := by simp [State.enterLeaving]

theorem wake_sc (s : State) : s.wake.sc = scReleased Sc.powerOn := by simp [State.wake, State.enterListen]

theorem putInForce_sc (s : State) (c : Cfg) : (s.putInForce c).sc = scReleased s.sc := by
  simp [State.putInForce, State.enterListen]

theorem commandLegal_keptByMoves : KeptByMoves CommandLegal where
  congr _ _ same := commandLegal_congr same.state (by rw [same.sc]) (by rw [same.sc]) (by rw [same.sc])
  listen _ _ _ := commandLegal_of_zero rfl rfl
  active s _ h := commandLegal_of_commanding (.inl (by simp)) (by rw [enterActive_sc]; exact h.2)
  toLocal s _ h := commandLegal_of_commanding (.inr rfl) fun degraded =>
    scLocal_degraded (h.2 ((scLocal_sink_state s).1.symm.trans degraded))
  leaving _ _ _ := commandLegal_of_zero (by rw [enterLeaving_sc]; rfl) (by rw [enterLeaving_sc]; rfl)
  dupId _ _ _ := commandLegal_of_zero rfl rfl
  invalid _ _ _ := commandLegal_of_zero rfl rfl
  park _ _ _ := commandLegal_of_zero rfl rfl
  wake _ _ _ := commandLegal_of_zero (by rw [wake_sc]; rfl) (by rw [wake_sc]; rfl)
  inForce _ _ _ _ _ _ _ := commandLegal_of_zero (by rw [putInForce_sc]; rfl) (by rw [putInForce_sc]; rfl)
  arrives _ _ _ _ _ _ h := h

theorem slew_zero (c : Cfg) (command : Nat) : slew c 0 command = 0 := if_pos (Nat.zero_le _)

theorem commandTarget_of_degraded {s : State} (degraded : s.sc.degraded = true) : commandTarget s = 0 := if_pos degraded

theorem commandTarget_of_released {s : State} (active : s.stc.state ≠ .active) (localOnly : s.stc.state ≠ .localOnly) :
    commandTarget s = 0 := by
  unfold commandTarget
  split
  · rfl
  · cases state : s.stc.state <;> first | rfl | exact absurd state active | exact absurd state localOnly

theorem exhaustStep_of_not_normal {s : State} (h : ¬(s.stc.state = .active ∧ s.sc.degraded = false)) :
    exhaustStep s = (0, 0) := if_neg h

/-- With nothing to command and no step in force the command stage ends at 0. -/
theorem commandNext_zero {s : State} (target : commandTarget s = 0)
    (normal : ¬(s.stc.state = .active ∧ s.sc.degraded = false)) (k : s.sc.kNow = 0) :
    (commandNext s).c = 0 ∧ (commandNext s).kNow = 0 := by
  unfold commandNext
  split
  · simp [exhaustStep_of_not_normal normal]
  · exact ⟨by simp [target, slew_zero], k⟩

theorem commandNext_sink_state (s : State) :
    (commandNext s).degraded = s.sc.degraded ∧ (commandNext s).cause = s.sc.cause := by
  unfold commandNext
  split <;> exact ⟨rfl, rfl⟩

theorem commandLegal_commandStage {s : State} (h : CommandLegal s) : CommandLegal s.commandStage := by
  obtain ⟨released, degraded⟩ := h
  refine ⟨fun active localOnly => ?_, fun now => ?_⟩
  · exact commandNext_zero (commandTarget_of_released active localOnly) (fun normal => active normal.1)
      (released active localOnly).2
  · have before : s.sc.degraded = true := (commandNext_sink_state s).1.symm.trans now
    exact commandNext_zero (commandTarget_of_degraded before) (fun normal => by simp [before] at normal) (degraded before).2

theorem commandLegal_temperatureStage {s : State} (h : CommandLegal s) : CommandLegal s.temperatureStage :=
  commandLegal_congr (by simp) (by rw [temperatureStage_sc]) (by rw [temperatureStage_sc]) (by rw [temperatureStage_sc]) h

theorem commandLegal_sinkStages {s : State} (h : CommandLegal s) : CommandLegal s.sinkStages :=
  sinkStages_keeps commandLegal_keptByMoves.congr
    (closes := fun _ => commandLegal_congr (by simp) (by simp) (by simp) (by simp))
    (temperature := fun _ => commandLegal_temperatureStage)
    (degrades := fun _ _ _ _ => commandLegal_of_zero rfl rfl)
    (forms := fun _ h => h) (takes := fun _ h => h) (counts := fun _ _ h => h)
    (commands := fun _ => commandLegal_commandStage) h

theorem work_keeps_commandLegal (i : Instr) (s : State) (h : CommandLegal s) : CommandLegal (work i s) :=
  work_keeps_of_moves commandLegal_keptByMoves h
    (config := commandLegal_of_zero rfl rfl)
    (reads := fun _ _ => h)
    (plans := fun _ => h)
    (demands := fun _ _ => h)
    (ages := h)
    (sinks := fun _ _ => commandLegal_sinkStages h)
    (heats := fun _ _ => h)
    (adheres := fun _ => by split <;> exact h)
    (eng := fun _ => h) (wheel := fun _ => h) i

/-! ### The command in LOCAL (R144, R155) -/

theorem localCommandLegal_of_other {s : State} (h : s.stc.state ≠ .localOnly) : LocalCommandLegal s :=
  fun state => absurd state h

theorem localCommandLegal_congr {s t : State} (state : t.stc.state = s.stc.state) (cfg : t.cfg = s.cfg) (c : t.sc.c = s.sc.c)
    (k : t.sc.kNow = s.sc.kNow) (h : LocalCommandLegal s) : LocalCommandLegal t := by
  unfold LocalCommandLegal State.role State.isSource at *
  rw [state, cfg, c, k]
  exact h

theorem localCommandLegal_keptByMoves : KeptByMoves LocalCommandLegal where
  congr _ _ same := localCommandLegal_congr same.state same.cfg (by rw [same.sc]) (by rw [same.sc])
  listen _ _ _ := localCommandLegal_of_other (by simp)
  active _ _ _ := localCommandLegal_of_other (by simp)
  toLocal s _ _ := fun _ notSource => by
    have released : scLocal s = scReleased s.sc := if_neg notSource
    exact ⟨congrArg Sc.c released, congrArg Sc.kNow released⟩
  leaving _ _ _ := localCommandLegal_of_other (by simp)
  dupId _ _ _ := localCommandLegal_of_other (by simp)
  invalid _ _ _ := localCommandLegal_of_other (by simp)
  park _ _ _ := localCommandLegal_of_other (by simp)
  wake _ _ _ := localCommandLegal_of_other (by simp)
  inForce _ _ _ _ _ _ _ := localCommandLegal_of_other (by simp [Memory.putInForce_stc])
  arrives _ _ _ _ _ _ h := h

theorem localCommandLegal_commandStage {s : State} (h : LocalCommandLegal s) : LocalCommandLegal s.commandStage := by
  intro state notSource
  have target : commandTarget s = 0 := by
    unfold commandTarget
    split
    · rfl
    · rw [show s.stc.state = .localOnly from state]
      exact if_neg notSource
  have normal : ¬(s.stc.state = .active ∧ s.sc.degraded = false) :=
    fun normal => by cases (show s.stc.state = .localOnly from state).symm.trans normal.1
  exact commandNext_zero target normal (h state notSource).2

theorem localCommandLegal_sinkStages {s : State} (h : LocalCommandLegal s) : LocalCommandLegal s.sinkStages :=
  sinkStages_keeps localCommandLegal_keptByMoves.congr
    (closes := fun _ => localCommandLegal_congr (by simp) (by simp) (by simp) (by simp))
    (temperature := fun _ =>
      localCommandLegal_congr (by simp) (by simp) (by rw [temperatureStage_sc]) (by rw [temperatureStage_sc]))
    (degrades := fun _ _ _ _ _ _ => ⟨rfl, rfl⟩)
    (forms := fun _ h => h) (takes := fun _ h => h) (counts := fun _ _ h => h)
    (commands := fun _ => localCommandLegal_commandStage) h

theorem work_keeps_localCommandLegal (i : Instr) (s : State) (h : LocalCommandLegal s) : LocalCommandLegal (work i s) :=
  work_keeps_of_moves localCommandLegal_keptByMoves h
    (config := localCommandLegal_of_other (by simp [State.enterConfig, State.reset, Stc.powerOn]))
    (reads := fun _ _ => h)
    (plans := fun _ => h)
    (demands := fun _ _ => h)
    (ages := h)
    (sinks := fun _ _ => localCommandLegal_sinkStages h)
    (heats := fun _ _ => h)
    (adheres := fun _ => by split <;> exact h)
    (eng := fun _ => h) (wheel := fun _ => h) i

/-! ### The sink state and its cause (R151, R153) -/

theorem degradedLegal_congr {s t : State} (degraded : t.sc.degraded = s.sc.degraded) (cause : t.sc.cause = s.sc.cause)
    (h : DegradedLegal s) : DegradedLegal t := by
  unfold DegradedLegal at *
  rw [degraded, cause]
  exact h

theorem degradedLegal_keptByMoves : KeptByMoves DegradedLegal where
  congr _ _ same := degradedLegal_congr (by rw [same.sc]) (by rw [same.sc])
  listen _ _ h := h
  active _ _ := degradedLegal_congr (by rw [enterActive_sc]) (by rw [enterActive_sc])
  toLocal s _ := degradedLegal_congr (scLocal_sink_state s).1 (scLocal_sink_state s).2
  leaving _ _ := degradedLegal_congr (by rw [enterLeaving_sc]; rfl) (by rw [enterLeaving_sc]; rfl)
  dupId _ _ h := h
  invalid _ _ h := h
  park _ _ h := h
  wake s _ _ := by simp [DegradedLegal, wake_sc, scReleased, Sc.powerOn]
  inForce _ _ _ _ _ _ := degradedLegal_congr (by rw [putInForce_sc]; rfl) (by rw [putInForce_sc]; rfl)
  arrives _ _ _ _ _ _ h := h

theorem degradedLegal_sinkStages {s : State} (h : DegradedLegal s) : DegradedLegal s.sinkStages :=
  sinkStages_keeps degradedLegal_keptByMoves.congr
    (closes := fun _ => degradedLegal_congr (by simp) (by simp))
    (temperature := fun _ => degradedLegal_congr (by rw [temperatureStage_sc]) (by rw [temperatureStage_sc]))
    (degrades := fun _ _ some _ => ⟨fun _ => some, fun _ => rfl⟩)
    (forms := fun _ h => h) (takes := fun _ h => h) (counts := fun _ _ h => h)
    (commands := fun s => degradedLegal_congr (commandNext_sink_state s).1 (commandNext_sink_state s).2) h

theorem work_keeps_degradedLegal (i : Instr) (s : State) (h : DegradedLegal s) : DegradedLegal (work i s) :=
  work_keeps_of_moves degradedLegal_keptByMoves h
    (config := by simp [DegradedLegal, State.enterConfig, State.reset, Sc.powerOn])
    (reads := fun _ _ => h)
    (plans := fun _ => h)
    (demands := fun _ _ => h)
    (ages := h)
    (sinks := fun _ _ => degradedLegal_sinkStages h)
    (heats := fun _ _ => h)
    (adheres := fun _ => by split <;> exact h)
    (eng := fun _ => h) (wheel := fun _ => h) i

/-- Settles O57: four invariants, each kept by every command's work. -/
theorem demandAndCommandStayLegal : Obligations.DemandAndCommandStayLegal := fun _ _ taken =>
  ⟨fun h => step_keeps_of_moves demandLegal_keptByMoves work_keeps_demandLegal h taken,
    fun h => step_keeps_of_moves commandLegal_keptByMoves work_keeps_commandLegal h taken,
    fun h => step_keeps_of_moves localCommandLegal_keptByMoves work_keeps_localCommandLegal h taken,
    fun h => step_keeps_of_moves degradedLegal_keptByMoves work_keeps_degradedLegal h taken⟩

end Sys2Proof.DemandAndCommand
end

section
/-! PROOFS. What every step keeps of the configuration in force, the capacity, the estimate (spec/05), the adhesion limit and the
speeds (spec/06). -/

namespace Sys2Proof.Capacities

open Sys2Proof Sys2Proof.Machine Sys2Proof.Commands Sys2Proof.Paths Sys2Proof.Blocks Sys2Proof.DemandAndCommand

/-! ### The configuration in force (R178, R180) -/

/-- What the blocks rely on of a configuration. -/
def CfgChecked (c : Cfg) : Prop :=
  sharedOk c.shared = true ∧ localOk c.loc = true ∧ c.loc.powerOnTemp ≤ 65535 ∧ c.loc.coolGain ≤ 65535

theorem nat2At_le (b : List Byte) (i : Nat) : nat2At b i ≤ 65535 := Nat.le_of_lt_succ (halfAt b i).isLt

theorem cfgChecked_of_checksPass {sb lb : List Byte} (profile : Half) (ok : checksPass sb lb = true) :
    CfgChecked (loadedCfg sb lb profile) := by
  simp only [checksPass, Bool.and_eq_true] at ok
  obtain ⟨⟨shared, -⟩, loc⟩ := ok
  exact ⟨shared, loc, nat2At_le _ _, nat2At_le _ _⟩

theorem configured_of_operating {s : State} (op : operating s.stc.state = true) : configured s := by
  constructor
  · intro state
    rw [state] at op
    cases op
  · rintro ⟨state, -⟩
    rw [state] at op
    cases op

theorem configured_of_state {s : State} {st : StationState} (state : s.stc.state = st) (config : st ≠ .config)
    (fault : st ≠ .fault) : configured s := by
  subst state
  exact ⟨config, fun bad => fault bad.1⟩

theorem not_configured_of_config {s : State} (state : s.stc.state = .config) : ¬configured s := fun h => h.1 state

theorem cfgChecked_of_operating {s : State} (op : operating s.stc.state = true) (h : ConfigLegal s) : CfgChecked s.cfg :=
  h (configured_of_operating op)

/-- From a configured station every move that keeps the configuration keeps it legal. -/
theorem configLegal_move {s t : State} (before : configured s) (cfg : t.cfg = s.cfg) (h : ConfigLegal s) : ConfigLegal t :=
  fun _ => cfg ▸ h before

theorem configured_congr {s t : State} (state : t.stc.state = s.stc.state) (cause : t.stc.cause = s.stc.cause) :
    configured t ↔ configured s := by
  unfold configured
  rw [state, cause]

theorem configLegal_congr {s t : State} (state : t.stc.state = s.stc.state) (cause : t.stc.cause = s.stc.cause)
    (cfg : t.cfg = s.cfg) (h : ConfigLegal s) : ConfigLegal t :=
  fun now => cfg ▸ h ((configured_congr state cause).mp now)

theorem putInForce_cfg (s : State) (c : Cfg) : (s.putInForce c).cfg = c := by simp [State.putInForce]

theorem configLegal_keptByMoves : KeptByMoves ConfigLegal where
  congr _ _ same := configLegal_congr same.state same.cause same.cfg
  listen _ state := configLegal_move (configured_of_state state (by simp) (by simp)) (by simp)
  active _ state := configLegal_move (configured_of_state state (by simp) (by simp)) (by simp)
  toLocal _ state :=
    configLegal_move (state.elim (configured_of_state · (by simp) (by simp)) (configured_of_state · (by simp) (by simp))) (by simp)
  leaving _ state := configLegal_move (configured_of_state state (by simp) (by simp)) (by simp)
  dupId _ op := configLegal_move (configured_of_operating op) (by simp)
  invalid _ _ _ now := absurd ⟨rfl, rfl⟩ now.2
  park _ op := configLegal_move (configured_of_operating op) (by simp)
  wake _ state := configLegal_move (configured_of_state state (by simp) (by simp)) (by simp)
  inForce s _ _ profile _ ok _ _ := by
    rw [putInForce_cfg]
    exact cfgChecked_of_checksPass profile ok
  arrives _ _ _ _ _ _ h := h

theorem configLegal_enterConfig (s : State) : ConfigLegal s.enterConfig :=
  fun now => absurd now (not_configured_of_config rfl)

/-! ### The advertised capacity (R106, R107) -/

/-- C is at most KMAX, and 0 where R107 asks it. -/
def CapacityFits (s : State) : Prop :=
  s.cu.capacity ≤ s.cfg.loc.kmax
    ∧ (s.sc.degraded = true ∨ s.sc.tempHold = true ∨ s.cu.code = none → s.cu.capacity = 0)

theorem localOk_curves {c : LocalCfg} (ok : localOk c = true) :
    curveOk c.tempCurve = true ∧ curveOk c.speedCurve = true := by
  simp only [localOk, Bool.and_eq_true] at ok
  tauto

theorem localOk_limits {c : LocalCfg} (ok : localOk c = true) :
    c.lFloor ≤ c.lMax ∧ c.ambient ≤ c.powerOnTemp ∧ 1 ≤ c.coldTime := by
  simp only [localOk, Bool.and_eq_true, decide_eq_true_eq] at ok
  tauto

theorem curveRead_le_of_ok {c : Curve} (ok : curveOk c = true) (x : Nat) : curveRead c x ≤ 256 :=
  Curves.curveRead_le (Curves.increasing_and_le_of_curveOk ok).2 x

theorem scaled_le {k f : Nat} (h : f ≤ 256) : k * f / 256 ≤ k :=
  Nat.div_le_of_le_mul (by rw [Nat.mul_comm 256]; exact Nat.mul_le_mul_left k h)

theorem rawCapacity_le {c : Cfg} {fT fS : Nat} (hT : fT ≤ 256) (hS : fS ≤ 256) : rawCapacity c fT fS ≤ c.loc.kmax :=
  (scaled_le hS).trans (scaled_le hT)

theorem speedFraction_le {c : Cfg} (ok : curveOk c.loc.speedCurve = true) (x : Nat) : speedFraction c x ≤ 256 := by
  unfold speedFraction
  split
  · exact le_rfl
  · exact curveRead_le_of_ok ok x

theorem advertised_le (c : Cfg) (sc : Sc) (code : Option Nat) (guarded : Bool) (raw : Nat) :
    advertised c sc code guarded raw ≤ raw := by
  unfold advertised
  split
  · exact Nat.zero_le _
  · split
    · exact Nat.zero_le _
    · split
      · exact Nat.zero_le _
      · split
        · exact scaled_le (Nat.min_le_right _ _)
        · exact le_rfl

theorem advertised_zero {c : Cfg} {sc : Sc} {code : Option Nat} {guarded : Bool} {raw : Nat}
    (h : sc.degraded = true ∨ sc.tempHold = true ∨ code = none) : advertised c sc code guarded raw = 0 := by
  unfold advertised
  obtain h | h | h := h <;> simp [h]

theorem capacityFits_formCapacity {s : State} (ok : localOk s.cfg.loc = true) : CapacityFits s.formCapacity := by
  obtain ⟨temp, speed⟩ := localOk_curves ok
  have zero : s.sc.degraded = true ∨ s.sc.tempHold = true ∨ s.cu.code = none → s.formCapacity.cu.capacity = 0 :=
    advertised_zero
  refine ⟨?_, zero⟩
  cases code : s.cu.code with
  | none => exact (zero (.inr (.inr code))).trans_le (Nat.zero_le _)
  | some code' =>
    refine (advertised_le _ _ _ _ _).trans (rawCapacity_le ?_ (speedFraction_le speed _))
    rw [tempFraction, code]
    exact curveRead_le_of_ok temp code'

theorem capacityFits_congr {s t : State} (cfg : t.cfg = s.cfg) (capacity : t.cu.capacity = s.cu.capacity)
    (code : t.cu.code = s.cu.code) (degraded : t.sc.degraded = s.sc.degraded) (tempHold : t.sc.tempHold = s.sc.tempHold)
    (h : CapacityFits s) : CapacityFits t := by
  unfold CapacityFits at *
  rw [cfg, capacity, code, degraded, tempHold]
  exact h

theorem capacityFits_startCapacity {s : State} (theta : Nat) (ok : localOk s.cfg.loc = true) :
    CapacityFits (s.startCapacity theta) := by
  unfold State.startCapacity
  split <;> exact capacityFits_formCapacity ok

/-- The capacity put in force: CU with the values the start of work gives, read by the SC that LISTEN leaves. -/
theorem capacityFits_putInForce {s : State} {c : Cfg} (ok : localOk c.loc = true) : CapacityFits (s.putInForce c) := by
  have started : CapacityFits (((s.setCfg c).setAm { s.am with limit := startLimit c s.am.limit }).startCapacity
      (codeStep * c.loc.powerOnTemp)) := capacityFits_startCapacity _ ok
  exact started

theorem capacityFits_wake {s : State} (ok : localOk s.cfg.loc = true) : CapacityFits s.wake := by
  have started : CapacityFits ((((s.setSc Sc.powerOn).setAm
      { Am.powerOn with limit := startLimit s.cfg s.am.limit, woken := true }).startCapacity
      (parkCooled s.cfg s.stc.parkTimer s.te.theta))) := capacityFits_startCapacity _ ok
  exact started

theorem scLocal_tempHold (s : State) : (scLocal s).tempHold = s.sc.tempHold := by
  unfold scLocal
  split <;> rfl

theorem capacityFits_move {s t : State} (cfg : t.cfg = s.cfg) (cu : t.cu = s.cu) (degraded : t.sc.degraded = s.sc.degraded)
    (tempHold : t.sc.tempHold = s.sc.tempHold) (h : CapacityFits s) : CapacityFits t :=
  capacityFits_congr cfg (by rw [cu]) (by rw [cu]) degraded tempHold h

theorem capacityLegal_keptByMoves : KeptByMoves CapacityLegal where
  congr _ _ same h :=
    ⟨configLegal_keptByMoves.congr _ _ same h.1, capacityFits_move same.cfg same.cu (by rw [same.sc]) (by rw [same.sc]) h.2⟩
  listen _ state h := ⟨configLegal_keptByMoves.listen _ state h.1, capacityFits_move rfl rfl rfl rfl h.2⟩
  active _ state h :=
    ⟨configLegal_keptByMoves.active _ state h.1,
      capacityFits_move (by simp) (by simp) (by rw [enterActive_sc]) (by rw [enterActive_sc]) h.2⟩
  toLocal s state h :=
    ⟨configLegal_keptByMoves.toLocal _ state h.1,
      capacityFits_move (s := s) rfl rfl (scLocal_sink_state s).1 (scLocal_tempHold s) h.2⟩
  leaving _ state h :=
    ⟨configLegal_keptByMoves.leaving _ state h.1,
      capacityFits_move (by simp) (by simp) (by rw [enterLeaving_sc]; rfl) (by rw [enterLeaving_sc]; rfl) h.2⟩
  dupId _ op h := ⟨configLegal_keptByMoves.dupId _ op h.1, capacityFits_move rfl rfl rfl rfl h.2⟩
  invalid _ config h := ⟨configLegal_keptByMoves.invalid _ config h.1, capacityFits_move rfl rfl rfl rfl h.2⟩
  park _ op h := ⟨configLegal_keptByMoves.park _ op h.1, capacityFits_move rfl rfl rfl rfl h.2⟩
  wake s parked h := by
    obtain ⟨-, loc, -⟩ := h.1 (configured_of_state parked (by simp) (by simp))
    exact ⟨configLegal_keptByMoves.wake _ parked h.1, capacityFits_wake loc⟩
  inForce s sb lb profile config ok h :=
    ⟨configLegal_keptByMoves.inForce s sb lb profile config ok h.1,
      capacityFits_putInForce (cfgChecked_of_checksPass profile ok).2.1⟩
  arrives _ _ _ _ _ _ h := h

theorem capacityFits_commandStage {s : State} (h : CapacityFits s) : CapacityFits s.commandStage :=
  capacityFits_move (s := s) rfl rfl (commandNext_sink_state s).1 (by unfold State.commandStage commandNext; split <;> rfl) h

theorem capacityFits_supervisionStage {s : State} (ok : localOk s.cfg.loc = true) (h : CapacityFits s) :
    CapacityFits s.supervisionStage := by
  unfold State.supervisionStage
  split
  · exact h
  · simp only []
    split
    · exact capacityFits_formCapacity (by simpa using ok)
    · exact h

/-- C formed in the capacity stage, and formed anew where supervision degrades the sink. -/
theorem capacityFits_sinkStages {s : State} (ok : localOk s.cfg.loc = true) : CapacityFits s.sinkStages := by
  have formed : CapacityFits s.closeWindows.temperatureStage.feedbackStage.formCapacity :=
    capacityFits_formCapacity (by simpa using ok)
  refine capacityFits_commandStage (capacityFits_supervisionStage (by simpa using ok) ?_)
  exact formed

theorem work_keeps_capacityLegal (i : Instr) (s : State) (h : CapacityLegal s) : CapacityLegal (work i s) :=
  have checked (op : operating s.stc.state = true) : localOk s.cfg.loc = true := (cfgChecked_of_operating op h.1).2.1
  work_keeps_of_moves capacityLegal_keptByMoves h
    (config := ⟨configLegal_enterConfig s, Nat.zero_le _, fun _ => rfl⟩)
    (reads := fun _ _ => h)
    (plans := fun _ => h)
    (demands := fun _ _ => h)
    (ages := h)
    (sinks := fun _ op =>
      ⟨configLegal_congr (by simp) (by simp) (by simp) h.1, capacityFits_sinkStages (checked op)⟩)
    (heats := fun op _ =>
      ⟨configLegal_congr (by simp) (by simp) (by simp) h.1, capacityFits_formCapacity (checked op)⟩)
    (adheres := fun op => by
      split
      · exact ⟨h.1, capacityFits_formCapacity (checked op)⟩
      · exact h)
    (eng := fun _ => h) (wheel := fun _ => h) i

/-! ### The estimate (R113 to R120) -/

/-- The estimate between the ambient reference and the largest code and its fraction. -/
def EstimateFits (c : Cfg) (theta : Nat) : Prop := thetaAmb c ≤ theta ∧ theta ≤ thetaMax

theorem codeStep_mul_le {n : Nat} (h : n ≤ 65535) : codeStep * n ≤ thetaMax := by
  unfold thetaMax codeStep
  omega

theorem coolStep_bounds {c : Cfg} (gain : c.loc.coolGain ≤ 65535) {theta : Nat} (h : thetaAmb c ≤ theta) :
    thetaAmb c ≤ coolStep c theta ∧ coolStep c theta ≤ theta := by
  have fall : (theta - thetaAmb c) * c.loc.coolGain / 2 ^ 24 ≤ theta - thetaAmb c := by
    refine Nat.div_le_of_le_mul ?_
    rw [Nat.mul_comm]
    exact Nat.mul_le_mul_right _ (gain.trans (by decide))
  unfold coolStep
  omega

theorem estimateFits_estimateNext {c : Cfg} (checked : CfgChecked c) (take speed : Nat) {theta : Nat}
    (h : EstimateFits c theta) : EstimateFits c (estimateNext c take speed theta) := by
  obtain ⟨-, -, -, gain⟩ := checked
  have heated : thetaAmb c ≤ heatStep c take speed theta := h.1.trans (Nat.le_add_right _ _)
  exact ⟨le_min (h.1.trans h.2) (coolStep_bounds gain heated).1, Nat.min_le_left _ _⟩

theorem estimateFits_parkCooled {c : Cfg} (parked : Nat) {theta : Nat} (h : EstimateFits c theta) :
    EstimateFits c (parkCooled c parked theta) := by
  unfold parkCooled
  split
  · exact ⟨le_rfl, h.1.trans h.2⟩
  · have part : (theta - thetaAmb c) * (c.loc.coldTime - parked) / c.loc.coldTime ≤ theta - thetaAmb c :=
      Nat.div_le_of_le_mul (by rw [Nat.mul_comm]; exact Nat.mul_le_mul_right _ (Nat.sub_le _ _))
    exact ⟨Nat.le_add_right _ _, (Nat.add_le_of_le_sub' h.1 part).trans h.2⟩

theorem estimateFits_powerOn {c : Cfg} (checked : CfgChecked c) : EstimateFits c (codeStep * c.loc.powerOnTemp) :=
  ⟨Nat.mul_le_mul_left _ (localOk_limits checked.2.1).2.1, codeStep_mul_le checked.2.2.1⟩

theorem startCapacity_te (s : State) (theta : Nat) (axle : s.role = .axle) : (s.startCapacity theta).te.theta = theta := by
  rw [State.startCapacity, if_pos axle]
  rfl

theorem wake_theta {s : State} (axle : s.role = .axle) :
    s.wake.te.theta = parkCooled s.cfg s.stc.parkTimer s.te.theta :=
  startCapacity_te ((s.setSc Sc.powerOn).setAm { Am.powerOn with limit := startLimit s.cfg s.am.limit, woken := true }) _ axle

theorem putInForce_theta {s : State} {c : Cfg} (axle : cfgRole c = .axle) :
    (s.putInForce c).te.theta = codeStep * c.loc.powerOnTemp :=
  startCapacity_te ((s.setCfg c).setAm { s.am with limit := startLimit c s.am.limit }) _ axle

theorem estimateLegal_congr {s t : State} (state : t.stc.state = s.stc.state) (cause : t.stc.cause = s.stc.cause)
    (cfg : t.cfg = s.cfg) (theta : t.te.theta = s.te.theta) (h : EstimateLegal s) : EstimateLegal t := by
  refine ⟨configLegal_congr state cause cfg h.1, fun now axle => ?_⟩
  rw [State.role, cfg] at axle
  rw [cfg, theta]
  exact h.2 ((configured_congr state cause).mp now) axle

theorem estimateLegal_move {s t : State} (before : configured s) (cfg : t.cfg = s.cfg) (theta : t.te = s.te)
    (h : EstimateLegal s) : EstimateLegal t := by
  refine ⟨configLegal_move before cfg h.1, fun _ axle => ?_⟩
  rw [State.role, cfg] at axle
  rw [cfg, theta]
  exact h.2 before axle

theorem estimateLegal_keptByMoves : KeptByMoves EstimateLegal where
  congr _ _ same := estimateLegal_congr same.state same.cause same.cfg (by rw [same.te])
  listen _ state := estimateLegal_move (configured_of_state state (by simp) (by simp)) (by simp) (by simp)
  active _ state := estimateLegal_move (configured_of_state state (by simp) (by simp)) (by simp) (by simp)
  toLocal _ state :=
    estimateLegal_move (state.elim (configured_of_state · (by simp) (by simp)) (configured_of_state · (by simp) (by simp)))
      (by simp) (by simp)
  leaving _ state := estimateLegal_move (configured_of_state state (by simp) (by simp)) (by simp) (by simp)
  dupId _ op := estimateLegal_move (configured_of_operating op) (by simp) (by simp)
  invalid s config h := ⟨configLegal_keptByMoves.invalid s config h.1, fun now _ => absurd ⟨rfl, rfl⟩ now.2⟩
  park _ op := estimateLegal_move (configured_of_operating op) (by simp) (by simp)
  wake s parked h := by
    have before : configured s := configured_of_state parked (by simp) (by simp)
    refine ⟨configLegal_keptByMoves.wake s parked h.1, fun _ axle => ?_⟩
    rw [State.role, wake_cfg] at axle
    rw [wake_cfg, wake_theta axle]
    exact estimateFits_parkCooled _ (h.2 before axle)
  inForce s sb lb profile config ok h := by
    refine ⟨configLegal_keptByMoves.inForce s sb lb profile config ok h.1, fun _ axle => ?_⟩
    rw [State.role, putInForce_cfg] at axle
    rw [putInForce_cfg, putInForce_theta axle]
    exact estimateFits_powerOn (cfgChecked_of_checksPass profile ok)
  arrives _ _ _ _ _ _ h := h

theorem estimateLegal_heatAndCool {s : State} (op : operating s.stc.state = true) (h : EstimateLegal s) :
    EstimateLegal s.heatAndCool := by
  refine ⟨configLegal_congr (by simp) (by simp) (by simp) h.1, fun _ axle => ?_⟩
  rw [State.role, heatAndCool_cfg] at axle
  exact estimateFits_estimateNext (cfgChecked_of_operating op h.1) _ _ (h.2 (configured_of_operating op) axle)

theorem work_keeps_estimateLegal (i : Instr) (s : State) (h : EstimateLegal s) : EstimateLegal (work i s) :=
  work_keeps_of_moves estimateLegal_keptByMoves h
    (config := ⟨configLegal_enterConfig s, fun now => absurd now (not_configured_of_config rfl)⟩)
    (reads := fun _ _ => h)
    (plans := fun _ => h)
    (demands := fun _ _ => h)
    (ages := h)
    (sinks := fun _ _ => estimateLegal_congr (by simp) (by simp) (by simp) (by simp) h)
    (heats := fun op _ => estimateLegal_heatAndCool op h)
    (adheres := fun _ => by split <;> exact h)
    (eng := fun _ => h) (wheel := fun _ => h) i

/-- Settles O58: the configuration in force with the capacity, and with the estimate, kept by every command's work. -/
theorem capacityAndEstimateStayInRange : Obligations.CapacityAndEstimateStayInRange := fun _ _ taken =>
  ⟨fun h => step_keeps_of_moves capacityLegal_keptByMoves work_keeps_capacityLegal h taken,
    fun h => step_keeps_of_moves estimateLegal_keptByMoves work_keeps_estimateLegal h taken⟩

end Sys2Proof.Capacities
end

section
/-! PROOFS. The adhesion limit and the speeds (spec/06), which every step keeps in their ranges. -/

namespace Sys2Proof.AdhesionRange

open Sys2Proof Sys2Proof.Machine Sys2Proof.Commands Sys2Proof.Paths Sys2Proof.Blocks Sys2Proof.DemandAndCommand
  Sys2Proof.Capacities

/-! ### The stages of the evaluation -/

/-- The reference-speed stage sets Vref, its state and its hold count and no other (R124, R125). -/
theorem referenceStage_kept (c : Cfg) (t : PeerTable) (am : Am) :
    referenceStage c t am
      = { am with
          vref := (referenceStage c t am).vref, vrefState := (referenceStage c t am).vrefState
          vrefHold := (referenceStage c t am).vrefHold } := by
  unfold referenceStage
  split
  · rfl
  · split <;> (try split) <;> rfl

/-- The speed-fault stage sets the flag, its count, L and the suspension and no other (R127, R128). -/
theorem speedFaultStage_kept (c : Cfg) (take : Nat) (am : Am) :
    speedFaultStage c take am
      = { am with
          faultFlag := (speedFaultStage c take am).faultFlag, faultCount := (speedFaultStage c take am).faultCount
          limit := (speedFaultStage c take am).limit, rise := (speedFaultStage c take am).rise } := by
  unfold speedFaultStage
  split <;> split <;> (try split) <;> rfl

/-- The adhesion-limit stage sets L, the spacing and the suspension and no other (R131 to R133). -/
theorem limitStage_kept (c : Cfg) (b : Nat) (am : Am) :
    limitStage c b am
      = { am with
          limit := (limitStage c b am).limit, spacing := (limitStage c b am).spacing
          rise := (limitStage c b am).rise } := by
  unfold limitStage
  simp only []
  split
  · rfl
  · split
    · rfl
    · split <;> rfl

/-- The values of AM that the speed stages own. -/
def SameSpeeds (a b : Am) : Prop := a.vref = b.vref ∧ a.w = b.w ∧ a.vrefState = b.vrefState

theorem speedFaultStage_sameSpeeds (c : Cfg) (take : Nat) (am : Am) : SameSpeeds (speedFaultStage c take am) am := by
  rw [speedFaultStage_kept]
  exact ⟨rfl, rfl, rfl⟩

theorem limitStage_sameSpeeds (c : Cfg) (b : Nat) (am : Am) : SameSpeeds (limitStage c b am) am := by
  rw [limitStage_kept]
  exact ⟨rfl, rfl, rfl⟩

theorem axleStages_sameSpeeds (c : Cfg) (plan : LatestPlan) (take : Nat) (am : Am) :
    SameSpeeds (axleStages c plan take am) am := by
  obtain ⟨vref, w, vrefState⟩ := speedFaultStage_sameSpeeds c take am
  unfold axleStages
  simp only []
  split
  · exact ⟨vref, w, vrefState⟩
  · obtain ⟨vref', w', vrefState'⟩ := limitStage_sameSpeeds c (brakingMeasure plan take) (speedFaultStage c take am)
    exact ⟨vref'.trans vref, w'.trans w, vrefState'.trans vrefState⟩

/-! ### The speeds in 0 to 511 (R123 to R125) -/

/-- Vref and the wheel speed in their ranges, and Vref 0 while unavailable. -/
def SpeedsFit (am : Am) : Prop := am.vref ≤ 511 ∧ am.w ≤ 511 ∧ (am.vrefState = .unavailable → am.vref = 0)

theorem speedsFit_congr {a b : Am} (same : SameSpeeds a b) (h : SpeedsFit b) : SpeedsFit a := by
  obtain ⟨vref, w, vrefState⟩ := same
  unfold SpeedsFit
  rw [vref, w, vrefState]
  exact h

theorem peerWheel_le {slot : Option PeerRecord} {v : Nat} (h : peerWheel slot = some v) : v ≤ 511 := by
  unfold peerWheel at h
  split at h
  · split at h
    · obtain rfl := Option.some.inj h
      exact Nat.min_le_right _ _
    · cases h
  · cases h

theorem ownWheel_eq {c : Cfg} {am : Am} {v : Nat} (h : ownWheel c am = some v) : v = am.w := by
  unfold ownWheel at h
  split at h
  · exact (Option.some.inj h).symm
  · cases h

theorem le_of_mem_wheelMembers {c : Cfg} {t : PeerTable} {am : Am} (w : am.w ≤ 511) {v : Nat}
    (h : v ∈ wheelMembers c t am) : v ≤ 511 := by
  obtain own | peer := List.mem_append.mp h
  · exact (ownWheel_eq (Option.mem_toList.mp own)).trans_le w
  · obtain ⟨i, -, member⟩ := List.mem_filterMap.mp peer
    exact peerWheel_le member

theorem speedsFit_referenceStage {c : Cfg} {t : PeerTable} {am : Am} (h : SpeedsFit am) :
    SpeedsFit (referenceStage c t am) := by
  obtain ⟨vref, w, unavailable⟩ := h
  unfold referenceStage
  split
  · next x rest members =>
    refine ⟨le_of_mem_wheelMembers (c := c) (t := t) w ?_, w, by simp⟩
    rw [members]
    exact foldl_max_zero_mem (by simp)
  · split
    · exact ⟨vref, w, by simp⟩
    · next held =>
      split
      · exact ⟨vref, w, by simp [held]⟩
      · exact ⟨Nat.zero_le _, w, fun _ => rfl⟩
    · exact ⟨vref, w, unavailable⟩

theorem speedsFit_amNext {s : State} (h : SpeedsFit s.am) : SpeedsFit (amNext s) := by
  have reference : SpeedsFit (referenceStage s.cfg s.pt s.am) := speedsFit_referenceStage h
  unfold amNext
  simp only []
  split
  · exact speedsFit_congr (axleStages_sameSpeeds _ _ _ _) reference
  · exact reference

theorem speedsFit_closeWindows {s : State} (h : SpeedsFit s.am) : SpeedsFit s.closeWindows.am := by
  unfold State.closeWindows
  split
  · exact h
  · show SpeedsFit (amCloseWindow s.cfg s.am)
    obtain ⟨vref, w, unavailable⟩ := h
    unfold amCloseWindow
    split
    · exact ⟨vref, Nat.min_le_left _ _, unavailable⟩
    · exact ⟨vref, w, unavailable⟩
  · exact h

theorem sinkStages_am (s : State) : s.sinkStages.am = s.closeWindows.am := by simp [State.sinkStages]

theorem wake_am (s : State) : s.wake.am = { Am.powerOn with limit := startLimit s.cfg s.am.limit, woken := true } := by
  simp [State.wake]

theorem putInForce_am (s : State) (c : Cfg) : (s.putInForce c).am = { s.am with limit := startLimit c s.am.limit } := by
  simp [State.putInForce]

theorem speedsFit_powerOn : SpeedsFit Am.powerOn := ⟨Nat.zero_le _, Nat.zero_le _, fun _ => rfl⟩

theorem speedLegal_congr {s t : State} (am : t.am = s.am) (h : SpeedLegal s) : SpeedLegal t := by
  unfold SpeedLegal
  rw [am]
  exact h

theorem speedLegal_keptByMoves : KeptByMoves SpeedLegal where
  congr _ _ same := speedLegal_congr same.am
  listen _ _ := speedLegal_congr (by simp)
  active _ _ := speedLegal_congr (by simp)
  toLocal _ _ := speedLegal_congr (by simp)
  leaving _ _ := speedLegal_congr (by simp)
  dupId _ _ := speedLegal_congr (by simp)
  invalid _ _ := speedLegal_congr (by simp)
  park _ _ := speedLegal_congr (by simp)
  wake s _ _ := by
    show SpeedsFit s.wake.am
    rw [wake_am]
    exact speedsFit_powerOn
  inForce s _ _ _ _ _ h := by
    show SpeedsFit (s.putInForce _).am
    rw [putInForce_am]
    exact h
  arrives _ _ _ _ _ _ h := h

theorem work_keeps_speedLegal (i : Instr) (s : State) (h : SpeedLegal s) : SpeedLegal (work i s) :=
  work_keeps_of_moves speedLegal_keptByMoves h
    (config := speedsFit_powerOn)
    (reads := fun _ _ => h)
    (plans := fun _ => h)
    (demands := fun _ _ => h)
    (ages := h)
    (sinks := fun inp _ => by
      show SpeedsFit (s.setInp inp).sinkStages.am
      rw [sinkStages_am]
      exact speedsFit_closeWindows (s := s.setInp inp) h)
    (heats := fun _ _ => speedLegal_congr (by simp) h)
    (adheres := fun _ => by split <;> exact speedsFit_amNext h)
    (eng := fun _ => h) (wheel := fun _ => h) i

/-! ### The adhesion limit (R128, R131) -/

/-- L between L_FLOOR and L_MAX, and at L_FLOOR while the speed-fault flag is set. -/
def LimitFits (c : Cfg) (am : Am) : Prop :=
  c.loc.lFloor ≤ am.limit ∧ am.limit ≤ c.loc.lMax ∧ (am.faultFlag = true → am.limit = c.loc.lFloor)

theorem limitFits_floor {c : Cfg} (ok : c.loc.lFloor ≤ c.loc.lMax) {am : Am} (limit : am.limit = c.loc.lFloor) :
    LimitFits c am :=
  ⟨limit.ge, limit.trans_le ok, fun _ => limit⟩

theorem limitFits_speedFaultStage {c : Cfg} (ok : c.loc.lFloor ≤ c.loc.lMax) (take : Nat) {am : Am} (h : LimitFits c am) :
    LimitFits c (speedFaultStage c take am) := by
  unfold speedFaultStage
  split
  · split <;> exact limitFits_floor ok rfl
  · split
    · split
      · exact limitFits_floor ok rfl
      · exact h
    · exact h

theorem limitFits_limitStage {c : Cfg} (b : Nat) {am : Am} (clear : am.faultFlag ≠ true) (ok : c.loc.lFloor ≤ c.loc.lMax)
    (h : LimitFits c am) : LimitFits c (limitStage c b am) := by
  obtain ⟨floor, top, -⟩ := h
  unfold limitStage
  simp only []
  split
  · exact ⟨le_min floor (le_max_left _ _), (Nat.min_le_left _ _).trans top, fun flag => absurd flag clear⟩
  · split
    · exact ⟨floor, top, fun flag => absurd flag clear⟩
    · split
      · exact ⟨floor, top, fun flag => absurd flag clear⟩
      · exact ⟨le_min ok (floor.trans (Nat.le_add_right _ _)), Nat.min_le_left _ _, fun flag => absurd flag clear⟩

theorem limitFits_axleStages {c : Cfg} (ok : c.loc.lFloor ≤ c.loc.lMax) (plan : LatestPlan) (take : Nat) {am : Am}
    (h : LimitFits c am) : LimitFits c (axleStages c plan take am) := by
  have faults := limitFits_speedFaultStage ok take h
  unfold axleStages
  simp only []
  split
  · exact faults
  · next clear => exact limitFits_limitStage _ clear ok faults

theorem limitFits_amNext {s : State} (ok : s.cfg.loc.lFloor ≤ s.cfg.loc.lMax) (axle : s.role = .axle)
    (h : LimitFits s.cfg s.am) : LimitFits s.cfg (amNext s) := by
  have reference : LimitFits s.cfg (referenceStage s.cfg s.pt s.am) := by
    rw [referenceStage_kept]
    exact h
  rw [amNext, if_pos axle]
  exact limitFits_axleStages ok _ _ reference

theorem startLimit_fits {c : Cfg} (ok : c.loc.lFloor ≤ c.loc.lMax) (axle : cfgRole c = .axle) (old : Nat) {am : Am}
    (limit : am.limit = startLimit c old) (clear : am.faultFlag = false) : LimitFits c am := by
  rw [startLimit, if_pos axle] at limit
  exact ⟨limit ▸ ok, limit.le, by simp [clear]⟩

theorem adhesionLegal_move {s t : State} (before : configured s) (other : t.stc.state ≠ .config) (cfg : t.cfg = s.cfg)
    (am : t.am = s.am) (h : AdhesionLegal s) : AdhesionLegal t := by
  obtain ⟨config, -, fits⟩ := h
  refine ⟨configLegal_move before cfg config, fun state => absurd state other, fun _ axle => ?_⟩
  rw [State.role, cfg] at axle
  rw [cfg, am]
  exact fits before axle

theorem adhesionLegal_congr {s t : State} (state : t.stc.state = s.stc.state) (cause : t.stc.cause = s.stc.cause)
    (cfg : t.cfg = s.cfg) (limit : t.am.limit = s.am.limit) (flag : t.am.faultFlag = s.am.faultFlag)
    (h : AdhesionLegal s) : AdhesionLegal t := by
  obtain ⟨config, clear, fits⟩ := h
  refine ⟨configLegal_congr state cause cfg config, fun now => flag.trans (clear (state.symm.trans now)), fun now axle => ?_⟩
  rw [State.role, cfg] at axle
  rw [cfg, limit, flag]
  exact fits ((configured_congr state cause).mp now) axle

theorem adhesionLegal_keptByMoves : KeptByMoves AdhesionLegal where
  congr _ _ same := adhesionLegal_congr same.state same.cause same.cfg (by rw [same.am]) (by rw [same.am])
  listen _ state := adhesionLegal_move (configured_of_state state (by simp) (by simp)) (by simp) (by simp) (by simp)
  active _ state := adhesionLegal_move (configured_of_state state (by simp) (by simp)) (by simp) (by simp) (by simp)
  toLocal _ state :=
    adhesionLegal_move (state.elim (configured_of_state · (by simp) (by simp)) (configured_of_state · (by simp) (by simp)))
      (by simp) (by simp) (by simp)
  leaving _ state := adhesionLegal_move (configured_of_state state (by simp) (by simp)) (by simp) (by simp) (by simp)
  dupId _ op := adhesionLegal_move (configured_of_operating op) (by simp) (by simp) (by simp)
  invalid s config h :=
    ⟨configLegal_keptByMoves.invalid s config h.1, by simp, fun now _ => absurd ⟨rfl, rfl⟩ now.2⟩
  park _ op := adhesionLegal_move (configured_of_operating op) (by simp) (by simp) (by simp)
  wake s parked h := by
    obtain ⟨-, loc, -⟩ := h.1 (configured_of_state parked (by simp) (by simp))
    refine ⟨configLegal_keptByMoves.wake s parked h.1, by simp, fun _ axle => ?_⟩
    rw [State.role, wake_cfg] at axle
    rw [wake_cfg, wake_am]
    exact startLimit_fits (localOk_limits loc).1 axle s.am.limit rfl rfl
  inForce s sb lb profile config ok h := by
    have checked := cfgChecked_of_checksPass profile ok
    refine ⟨configLegal_keptByMoves.inForce s sb lb profile config ok h.1, by simp [Memory.putInForce_stc],
      fun _ axle => ?_⟩
    rw [State.role, putInForce_cfg] at axle
    rw [putInForce_cfg, putInForce_am]
    exact startLimit_fits (localOk_limits checked.2.1).1 axle s.am.limit rfl (h.2.1 config)
  arrives _ _ _ _ _ _ h := h

theorem closeWindows_limit (s : State) :
    s.closeWindows.am.limit = s.am.limit ∧ s.closeWindows.am.faultFlag = s.am.faultFlag := by
  unfold State.closeWindows
  split
  · exact ⟨rfl, rfl⟩
  · show (amCloseWindow s.cfg s.am).limit = _ ∧ (amCloseWindow s.cfg s.am).faultFlag = _
    unfold amCloseWindow
    split <;> exact ⟨rfl, rfl⟩
  · exact ⟨rfl, rfl⟩

theorem adhesionLegal_amNext {s : State} (op : operating s.stc.state = true) (h : AdhesionLegal s) :
    AdhesionLegal (s.setAm (amNext s)) := by
  obtain ⟨config, -, fits⟩ := h
  obtain ⟨-, loc, -⟩ := cfgChecked_of_operating op config
  refine ⟨config, fun state => absurd state (configured_of_operating op).1, fun _ axle => ?_⟩
  exact limitFits_amNext (localOk_limits loc).1 axle (fits (configured_of_operating op) axle)

theorem work_keeps_adhesionLegal (i : Instr) (s : State) (h : AdhesionLegal s) : AdhesionLegal (work i s) :=
  work_keeps_of_moves adhesionLegal_keptByMoves h
    (config := ⟨configLegal_enterConfig s, fun _ => rfl, fun now => absurd now (not_configured_of_config rfl)⟩)
    (reads := fun _ _ => h)
    (plans := fun _ => h)
    (demands := fun _ _ => h)
    (ages := h)
    (sinks := fun inp _ =>
      adhesionLegal_congr (s := s) (by simp) (by simp) (by simp)
        (by rw [sinkStages_am]; exact (closeWindows_limit (s.setInp inp)).1)
        (by rw [sinkStages_am]; exact (closeWindows_limit (s.setInp inp)).2) h)
    (heats := fun _ _ => adhesionLegal_congr (by simp) (by simp) (by simp) (by simp) (by simp) h)
    (adheres := fun op => by split <;> exact adhesionLegal_amNext op h)
    (eng := fun _ => h) (wheel := fun _ => h) i

/-- Settles O59: the adhesion limit with the configuration it needs, and the speeds, kept by every command's work. -/
theorem adhesionStaysInRange : Obligations.AdhesionStaysInRange := fun _ _ taken =>
  ⟨fun h => step_keeps_of_moves adhesionLegal_keptByMoves work_keeps_adhesionLegal h taken,
    fun h => step_keeps_of_moves speedLegal_keptByMoves work_keeps_speedLegal h taken⟩

end Sys2Proof.AdhesionRange
end

section
/-! PROOFS. The machine, reset, the counters and the line's two plain events: the statements that follow a command's work as it
stands. -/

namespace Sys2Proof.PlainEvents

open Sys2Proof Sys2Proof.Machine Sys2Proof.Commands

/-! ### The step (Conventions) -/

/-- Settles O1: the two cases of `step`. -/
theorem stepTakesTheFrontCommand : Obligations.StepTakesTheFrontCommand := by
  refine ⟨fun s c rest waiting => ?_, fun s idle => ?_⟩
  · simp only [step, waiting]
    rfl
  · simp only [step, idle]

/-- No command's work touches the waiting commands. -/
theorem work_pending (i : Instr) (s : State) : (work i s).pending = s.pending := by
  cases i with
  | spiTransactionEnd miso =>
    simp only [work]
    split
    · exact Paths.transactionEnds_keeps (P := fun u => u.pending = s.pending) miso rfl (fun _ => rfl) (by simp)
        fun _ _ _ _ => by simp
    · rfl
  | _ => simp only [work]; (try split) <;> simp [State.enterConfig]

/-- Settles O2: a command answers with its work and the pins of it; an idle step keeps the pins it finds. -/
theorem everyCommandAnswers : Obligations.EveryCommandAnswers := by
  have answers (i : Instr) (s : State) : ∃ t, exec i s = .next t ∧ t.pending = s.pending ∧ PinsFollow t :=
    ⟨_, exec_eq_next_work i s, (drivePins_pending _).trans (work_pending i s), by simp [PinsFollow, drivePins_out]⟩
  refine ⟨answers, fun s pins => ?_⟩
  cases waiting : s.pending with
  | nil => exact ⟨s, stepTakesTheFrontCommand.2 s waiting, pins⟩
  | cons c rest =>
    obtain ⟨t, next, -, follow⟩ := answers c { s with pending := rest }
    exact ⟨t, (stepTakesTheFrontCommand.1 s c rest waiting).trans next, follow⟩

/-! ### Reset (R157, section 8.8) -/

/-- Settles O3: reset, block by block. -/
theorem resetIsPowerOn : Obligations.ResetIsPowerOn := by
  exact ⟨⟨rfl, rfl, rfl, rfl, rfl, rfl, rfl, rfl⟩, slotGet_empty, ⟨rfl, rfl, rfl, rfl, rfl⟩, ⟨rfl, rfl, rfl, rfl⟩, rfl, rfl,
    ⟨rfl, rfl, rfl, rfl⟩, ⟨rfl, rfl, rfl, rfl, rfl, rfl, rfl, rfl, rfl⟩, rfl, rfl, rfl⟩

theorem not_configured_reset : ¬configured State.reset := Capacities.not_configured_of_config rfl

theorem configLegal_reset : ConfigLegal State.reset := fun now => absurd now not_configured_reset

/-- The pins of reset are those of its blocks (R101, R154, R157, R176). -/
theorem pinsFollow_reset : PinsFollow State.reset := rfl

theorem oneFrame_reset : OneFrame State.reset := by
  refine ⟨fun cls => ?_, fun _ => rfl⟩
  cases cls <;> exact fun _ sent => nomatch sent

theorem tableLegal_reset : TableLegal State.reset := by
  refine ⟨slotGet_empty _, fun i r held => ?_, fun _ => rfl⟩
  cases (slotGet_empty i).symm.trans held

/-- Settles O4: the invariants of a safe state, one by one. -/
theorem resetIsSafe : Obligations.ResetIsSafe where
  pins := pinsFollow_reset
  alerts := ⟨Nat.zero_le _, List.nodup_nil, fun _ => rfl, fun _ _ => rfl⟩
  frame := oneFrame_reset
  standing := ⟨Nat.zero_le _, by decide, (nomatch ·), (nomatch ·)⟩
  receiver := fun _ inFrame => nomatch inFrame
  table := tableLegal_reset
  quiet := fun _ => ⟨rfl, rfl, rfl, rfl, rfl, rfl, rfl, rfl, rfl, rfl⟩
  plan := fun _ => rfl
  cause := ⟨(nomatch ·), fun some => absurd rfl some⟩
  demand := DemandAndCommand.demandLegal_of_powerOn rfl
  command := DemandAndCommand.commandLegal_of_zero rfl rfl
  localCommand := DemandAndCommand.localCommandLegal_of_other (by simp [State.reset, Stc.powerOn])
  degraded := ⟨(nomatch ·), fun some => absurd rfl some⟩
  capacity := ⟨configLegal_reset, Nat.zero_le _, fun _ => rfl⟩
  estimate := ⟨configLegal_reset, fun now => absurd now not_configured_reset⟩
  adhesion := ⟨configLegal_reset, fun _ => rfl, fun now => absurd now not_configured_reset⟩
  speed := AdhesionRange.speedsFit_powerOn

/-! ### CONFIG and the start of the read (R157, R176) -/

/-- Settles O5: CONFIG from any state, and the read's start with and without its condition. -/
theorem configIsEnteredAndTheReadStarts : Obligations.ConfigIsEnteredAndTheReadStarts := by
  have pins (inp : InPins) (cs : List Instr) : outputsOf { State.reset with inp := inp, pending := cs } = OutPins.powerOn :=
    pinsFollow_reset.symm
  refine ⟨fun s => ⟨?_, ?_⟩, fun s straps config idle => ?_, fun s straps other => ?_⟩
  · rw [exec_of_work (u := s.enterConfig) rfl, State.drivePins, State.enterConfig, pins]
    rfl
  · rw [exec_of_work (u := s.enterConfig.latchResetn false) rfl, State.drivePins, State.latchResetn, State.enterConfig, State.setInp, pins]
    rfl
  · exact ⟨_, exec_of_work (if_pos ⟨config, idle⟩), rfl, rfl, rfl⟩
  · have held_off : work (.configurationRead straps) s = s.latchStraps straps := if_neg other
    exact exec_of_work held_off

/-! ### The counters (R105, R123, R169) -/

/-- Settles O40: each counter under its condition, and without it. -/
theorem ticksAndPulsesCount : Obligations.TicksAndPulsesCount := by
  refine ⟨fun s parked => ⟨_, exec_of_work (if_pos parked), rfl⟩,
    fun s op exhaust opened => ⟨_, exec_of_work (if_pos ⟨op, exhaust, opened⟩), rfl⟩,
    fun s op axle opened => ⟨_, exec_of_work (if_pos ⟨op, axle, opened⟩), rfl⟩,
    fun s other => exec_of_work_self (if_neg other), fun s other => exec_of_work_self (if_neg ?_),
    fun s other => exec_of_work_self (if_neg ?_)⟩
  · rintro ⟨op, exhaust, opened⟩
    simp_all
  · rintro ⟨op, axle, opened⟩
    simp_all

/-! ### The line (R76, R88 to R90, R94) -/

theorem rxAtLineFree_eq (rx : Receiver) : rxAtLineFree rx = .hunting := by cases rx <;> rfl

theorem lpLineFree_eq (lp : Lp) :
    lpLineFree lp = { lp with line := .free, origin := .lineFreePoint, tail := .none, rx := .hunting } := by
  rw [lpLineFree, rxAtLineFree_eq]

/-- Settles O31: the line-free point and the start bit, each under its condition and without it. -/
theorem lineFreePointAndStartBit : Obligations.LineFreePointAndStartBit := by
  refine ⟨fun s quietFor op busy quiet => ?_, fun s quietFor other => exec_of_work_self (if_neg ?_),
    fun s op => ⟨_, exec_of_work (if_pos op), rfl⟩, fun s other => exec_of_work_self (if_neg (by simp [other]))⟩
  · have freed : work (.lineFreePoint quietFor) s = s.setLp (lpLineFree s.lp) := if_pos ⟨op, busy, quiet⟩
    rw [lpLineFree_eq] at freed
    exact ⟨_, exec_of_work freed, rfl⟩
  · rintro ⟨op, busy, quiet⟩
    obtain off | free | short := other
    · simp [off] at op
    · simp [free] at busy
    · exact absurd quiet (Nat.not_le.mpr short)

theorem readBackMatches_iff (f : TxFrame) (c : Character) :
    readBackMatches f c = true
      ↔ charGood c = true ∧ (charMark c = true ↔ f.idx = 0) ∧ charData c = byteAt f.bytes f.idx := by
  rw [readBackMatches, Bool.and_eq_true, Bool.and_eq_true, beq_iff_eq, beq_iff_eq, and_assoc,
    Bool.eq_iff_iff (a := charMark c), beq_iff_eq]

theorem lastCharacter_iff (f : TxFrame) : lastCharacter f = true ↔ f.bytes.length ≤ f.idx + 1 := by simp [lastCharacter]

/-- A matching read-back before the last character puts the next one on TXD. -/
theorem readBack_of_next {s : State} {f : TxFrame} {c : Character} (matched : readBackMatches f c = true)
    (more : f.idx + 1 < f.bytes.length) :
    s.readBack f (some c) = s.setLp { s.lp with tx := some { f with idx := f.idx + 1 } } := by
  unfold State.readBack
  rw [if_pos (by simpa using matched), if_neg (by simpa [lastCharacter_iff] using more)]

theorem work_characterReadBack_of_sending {s : State} {f : TxFrame} (sending : s.lp.tx = some f) (read : Option Character)
    (ign : Bool) : work (.characterReadBack read ign) s = (s.latchIgn ign).readBack f read := by
  simp only [work, sending]

theorem work_characterReadBack_of_none {s : State} (none : s.lp.tx = none) (read : Option Character) (ign : Bool) :
    work (.characterReadBack read ign) s = s.latchIgn ign := by
  simp only [work, none]

/-- Settles O33: a matching character before the last, and no frame under way. -/
theorem readBackGoesOn : Obligations.ReadBackGoesOn := by
  refine ⟨fun s f c ign sending more good mark data => ?_, fun s read ign none => ?_⟩
  · have matched := (readBackMatches_iff f c).mpr ⟨good, mark, data⟩
    have next := (work_characterReadBack_of_sending sending (some c) ign).trans (readBack_of_next matched more)
    refine ⟨_, exec_of_work next, rfl, rfl, ?_⟩
    simp [drivePins_out, outputsOf, txChar]
  · exact exec_of_work (work_characterReadBack_of_none none read ign)

end Sys2Proof.PlainEvents
end

section
/-! PROOFS. The start of work: the loader's result put in force (spec/08, 8.2; spec/09), and the wake from PARKED (spec/08, 8.6). -/

namespace Sys2Proof.StartOfWork

open Sys2Proof Sys2Proof.Machine Sys2Proof.Commands Sys2Proof.Paths

/-! ### The estimate and CU as the part starts to work (R121) -/

/-- CU before its values are formed: the code at hand, the guard state given, the engine window anew. -/
def cuStarted (code : Option Nat) (guarded : Bool) (cu : Cu) : Cu :=
  { cu with code := code, guarded := guarded, engSpeed := 0, engPulses := 0, engOpen := false }

theorem startCapacity_of_axle {s : State} (theta : Nat) (axle : s.role = .axle) :
    (s.startCapacity theta).te.theta = theta
      ∧ (s.startCapacity theta).cu
        = cuForm s.cfg s.am s.sc
          (cuStarted (some (thetaCode theta)) (guardNext s.cfg s.cu.guarded (thetaCode theta)) s.cu) := by
  rw [State.startCapacity, if_pos axle]
  exact ⟨rfl, rfl⟩

theorem startCapacity_of_not_axle {s : State} (theta : Nat) (other : s.role ≠ .axle) :
    (s.startCapacity theta).te = s.te
      ∧ (s.startCapacity theta).cu = cuForm s.cfg s.am s.sc (cuStarted none s.cu.guarded s.cu) := by
  rw [State.startCapacity, if_neg other]
  exact ⟨rfl, rfl⟩

theorem guardNext_of_off {c : Cfg} {guarded : Bool} (off : guarded = false) (code : Nat) :
    guardNext c guarded code = true ↔ c.loc.guardOn ≤ code := by
  simp [guardNext, off]

theorem guardNext_of_on {c : Cfg} {guarded : Bool} (on : guarded = true) (code : Nat) :
    guardNext c guarded code = true ↔ c.loc.guardOff ≤ code := by
  simp [guardNext, on]

/-- What a start of work leaves in CU and TE, from the values `before` of its inputs (R108, R109, R121). -/
def Started (before : State) (theta : Nat) (am : Am) (sc : Sc) (cu : Cu) (te : Te) : Prop :=
  cu = cuForm before.cfg am sc (cuStarted (if before.role = .axle then some (thetaCode theta) else none) cu.guarded before.cu)
    ∧ (before.role = .axle →
        te.theta = theta
          ∧ (before.cu.guarded = false → (cu.guarded = true ↔ before.cfg.loc.guardOn ≤ thetaCode theta))
          ∧ (before.cu.guarded = true → (cu.guarded = true ↔ before.cfg.loc.guardOff ≤ thetaCode theta)))
    ∧ (before.role ≠ .axle → te = before.te ∧ cu.guarded = before.cu.guarded ∧ cu.capacity = 0)

/-- The release of the command does not show in CU: it reads the sink state and the temperature hold alone. -/
theorem started_startCapacity (s : State) (theta : Nat) :
    Started s theta s.am (scReleased s.sc) (s.startCapacity theta).cu (s.startCapacity theta).te := by
  by_cases axle : s.role = .axle
  · obtain ⟨te, cu⟩ := startCapacity_of_axle theta axle
    refine ⟨?_, fun _ => ⟨te, ?_, ?_⟩, fun other => absurd axle other⟩
    · rw [if_pos axle, cu]
      rfl
    · intro off
      rw [cu]
      exact guardNext_of_off off _
    · intro on
      rw [cu]
      exact guardNext_of_on on _
  · obtain ⟨te, cu⟩ := startCapacity_of_not_axle theta axle
    refine ⟨?_, fun yes => absurd yes axle, fun _ => ⟨te, ?_, ?_⟩⟩
    · rw [if_neg axle, cu]
      rfl
    · rw [cu]
      rfl
    · rw [cu]
      exact Capacities.advertised_zero (.inr (.inr rfl))

theorem startLimit_of_axle {c : Cfg} (axle : cfgRole c = .axle) (old : Nat) : startLimit c old = c.loc.lMax := if_pos axle

/-! ### The wake (R169, R170) -/

theorem wake_kept_but (s : State) :
    s.wake = { s with
      stc := { s.stc with state := .listen, listenCount := 0, ignOffCount := 0 }
      lp := lpStart s.lp, pe := s.wake.pe, te := s.wake.te, cu := s.wake.cu
      am := { Am.powerOn with limit := s.wake.am.limit, woken := true }, sc := Sc.powerOn } := by
  refine state_ext (by simp) (by simp) (by simp) (by simp) (by simp) (by simp) rfl (by simp) rfl rfl ?_
    (DemandAndCommand.wake_sc s) (by simp) (by simp) (by simp)
  rw [AdhesionRange.wake_am]

theorem started_wake (s : State) :
    Started s (parkCooled s.cfg s.stc.parkTimer s.te.theta) s.wake.am s.wake.sc s.wake.cu s.wake.te := by
  rw [AdhesionRange.wake_am, DemandAndCommand.wake_sc]
  exact started_startCapacity
    ((s.setSc Sc.powerOn).setAm { Am.powerOn with limit := startLimit s.cfg s.am.limit, woken := true }) _

/-- A PARKED station's evaluation samples the ignition, and wakes on it. -/
theorem work_stcEvaluationExpiry_of_parked {s : State} (parked : s.stc.state = .parked) (ign : Bool) :
    work (.stcEvaluationExpiry ign) s = if ign then (s.latchIgn ign).wake else s.latchIgn ign := by
  have idle : (s.latchIgn ign).warnCountdown = s.latchIgn ign := if_neg (by simp [parked, operating])
  simp only [work, idle, State.stationWork, latchIgn_stc, parked, State.parkedWork]
  rfl

theorem parkCooled_eq (s : State) :
    parkCooled s.cfg s.stc.parkTimer s.te.theta
      = if s.cfg.loc.coldTime ≤ s.stc.parkTimer then s.cfg.loc.ambient * 2 ^ 20
        else s.cfg.loc.ambient * 2 ^ 20
          + (s.te.theta - s.cfg.loc.ambient * 2 ^ 20) * (s.cfg.loc.coldTime - s.stc.parkTimer) / s.cfg.loc.coldTime := by
  rw [parkCooled, thetaAmb, codeStep, Nat.mul_comm (2 ^ 20)]

theorem parkCooled_bounds {c : Cfg} (parked : Nat) {theta : Nat} (above : thetaAmb c ≤ theta) :
    thetaAmb c ≤ parkCooled c parked theta ∧ parkCooled c parked theta ≤ theta := by
  unfold parkCooled
  split
  · exact ⟨le_rfl, above⟩
  · have part : (theta - thetaAmb c) * (c.loc.coldTime - parked) / c.loc.coldTime ≤ theta - thetaAmb c :=
      Nat.div_le_of_le_mul (by rw [Nat.mul_comm]; exact Nat.mul_le_mul_right _ (Nat.sub_le _ _))
    exact ⟨Nat.le_add_right _ _, Nat.add_le_of_le_sub' above part⟩

/-- Settles O49: the sample with the ignition off, and the wake with its parts one by one. -/
theorem wakeFromPark : Obligations.WakeFromPark := by
  intro s ign parked ambient cold cooled
  have cooled_eq : parkCooled s.cfg s.stc.parkTimer s.te.theta = cooled := parkCooled_eq s
  have ambient_eq : thetaAmb s.cfg = ambient := Nat.mul_comm _ _
  refine ⟨fun above _ => ?_, _, exec_of_work (work_stcEvaluationExpiry_of_parked parked ign), ?_, ?_⟩
  · rw [← ambient_eq, ← cooled_eq]
    exact parkCooled_bounds _ (ambient_eq.le.trans above)
  · rintro rfl
    rfl
  · rintro rfl
    obtain ⟨cu, axle, other⟩ := started_wake (s.latchIgn true)
    have theta : parkCooled (s.latchIgn true).cfg (s.latchIgn true).stc.parkTimer (s.latchIgn true).te.theta = cooled :=
      cooled_eq
    rw [theta] at cu axle
    refine ⟨drivePins_of_eq (wake_kept_but (s.latchIgn true)), cu, ?_, ?_, fun role => ?_, fun role => other role⟩
    · simp [State.wake, State.enterListen, Pe.idle, LatestPlan.empty]
    · simp [State.wake, State.enterListen, Pe.idle]
    · obtain ⟨te, off, on⟩ := axle role
      refine ⟨te, ?_, on, off⟩
      rw [if_pos rfl, drivePins_am, AdhesionRange.wake_am]
      exact startLimit_of_axle role _

/-! ### The end of a transaction (R177, R179) -/

theorem work_spiTransactionEnd {s : State} (config : s.stc.state = .config) (miso : List Byte) :
    work (.spiTransactionEnd miso) s = s.transactionEnds miso := if_pos config

/-- A shared block of full length whose CRC matches is accepted as it stands. -/
theorem transactionEnds_of_sharedBlock {s : State} {miso : List Byte} (phase : s.loader.phase = .sharedBlock)
    (len : miso.length = 48) (good : crc (miso.take 46) = halfAt miso 46) :
    s.transactionEnds miso
      = s.setLoader
        { phase := .localBlock, firstFailed := false, sharedBytes := miso, profile := crc (miso.take 46) } := by
  have whole : clockedIn s.loader.phase miso = miso := Memory.clockedIn_of_length (by rw [phase, len]; rfl)
  have matched : blockMatches miso = true := (Memory.blockMatches_iff miso).mpr (by rw [len]; exact good)
  simp only [State.transactionEnds, whole]
  simp only [phase, matched, if_true, blockCrc, len]

/-- A block of full length whose CRC differs. -/
theorem transactionEnds_of_differs {s : State} {miso : List Byte} {n : Nat}
    (block : s.loader.phase = .sharedBlock ∧ n = 48 ∨ s.loader.phase = .localBlock ∧ n = 128) (len : miso.length = n)
    (bad : crc (miso.take (n - 2)) ≠ halfAt miso (n - 2)) : s.transactionEnds miso = s.blockDiffers := by
  have differs : ¬blockMatches miso = true := by
    rw [Memory.blockMatches_iff, len]
    exact bad
  obtain ⟨phase, rfl⟩ | ⟨phase, rfl⟩ := block
  all_goals
    have whole : clockedIn s.loader.phase miso = miso := Memory.clockedIn_of_length (by rw [phase, len]; rfl)
    simp only [State.transactionEnds, whole]
    simp only [phase, if_neg differs]

/-- Settles O6: the block accepted, and the first and the second block that differs. -/
theorem loaderReadsTheBlocks : Obligations.LoaderReadsTheBlocks := by
  refine ⟨fun s miso config phase len good => ?_, fun s miso n config block len bad => ?_⟩
  · have accepted := (work_spiTransactionEnd config miso).trans (transactionEnds_of_sharedBlock phase len good)
    exact ⟨_, exec_of_work accepted, rfl, rfl, rfl⟩
  · have differs := (work_spiTransactionEnd config miso).trans (transactionEnds_of_differs block len bad)
    refine ⟨_, exec_of_work differs, fun first => ?_, fun second => ?_⟩
    · have again : s.blockDiffers = s.setLoader { s.loader with firstFailed := true } := if_neg (by simp [first])
      exact drivePins_of_eq again
    · obtain ⟨fault, warn, -⟩ := Memory.outputsOf_loadInvalid s
      rw [State.blockDiffers, if_pos second, drivePins_stc, drivePins_loader, drivePins_cfg, drivePins_out]
      exact ⟨rfl, rfl, rfl, rfl, fault, warn, rfl⟩

/-! ### A valid configuration (R158) -/

theorem putInForce_kept_but (s : State) (c : Cfg) :
    s.putInForce c = { s with
      cfg := c, stc := { s.stc with state := .listen, listenCount := 0, ignOffCount := 0 }
      lp := lpStart s.lp, pe := Pe.idle, sc := scReleased s.sc, cu := (s.putInForce c).cu, te := (s.putInForce c).te
      am := { s.am with limit := (s.putInForce c).am.limit } } := by
  refine state_ext (Capacities.putInForce_cfg s c) (Memory.putInForce_stc s c) (by simp) (by simp) (by simp) (by simp)
    (by simp [State.putInForce, State.enterListen]) (by simp) rfl rfl ?_ (DemandAndCommand.putInForce_sc s c) (by simp)
    (by simp) (by simp)
  rw [AdhesionRange.putInForce_am]

theorem started_putInForce (s : State) (c : Cfg) :
    Started (s.setCfg c) (codeStep * c.loc.powerOnTemp) (s.putInForce c).am (s.putInForce c).sc (s.putInForce c).cu
      (s.putInForce c).te := by
  rw [AdhesionRange.putInForce_am, DemandAndCommand.putInForce_sc]
  exact started_startCapacity ((s.setCfg c).setAm { s.am with limit := startLimit c s.am.limit }) _

theorem thetaCode_codeStep_mul (n : Nat) : thetaCode (codeStep * n) = n := Nat.mul_div_cancel_left n (by decide)

/-- Settles O8: the two blocks put in force, by the layout of the memory and the start of work. -/
theorem validConfigurationIsPutInForce : Obligations.ValidConfigurationIsPutInForce := by
  intro s lb config phase _ len good ok
  let c := configInMemory s.loader.sharedBytes lb s.loader.profile
  let s1 := s.setLoader Loader.powerOn
  have accepted : exec (.spiTransactionEnd lb) s = .next (s1.putInForce c).drivePins :=
    (Memory.exec_spiTransactionEnd_of_accepted config phase len good).trans
      (congrArg answer (Memory.bothAccepted_of_checks ok))
  have loader : (s1.putInForce c).loader = Loader.powerOn := by simp [s1]
  have cfg : (s1.putInForce c).cfg = c := Capacities.putInForce_cfg s1 c
  obtain ⟨cu, axle, other⟩ := started_putInForce s1 c
  rw [thetaCode_codeStep_mul] at cu axle
  refine ⟨_, accepted, ?_, ?_, ?_, fun role => ?_, fun role => ?_⟩
  · rw [drivePins_loader, loader]
    exact drivePins_of_eq (putInForce_kept_but s1 c)
  · rw [drivePins_loader, loader]
    rfl
  · rw [State.role, drivePins_cfg, cfg]
    exact cu
  · rw [State.role, drivePins_cfg, cfg] at role
    obtain ⟨te, off, on⟩ := axle role
    rw [drivePins_cfg, cfg, drivePins_am, AdhesionRange.putInForce_am]
    exact ⟨te.trans (Nat.mul_comm _ _), startLimit_of_axle role _, off, on⟩
  · rw [State.role, drivePins_cfg, cfg] at role
    exact other role

end Sys2Proof.StartOfWork
end

section
/-! PROOFS. Who is in the plan set, who is the drive axle (spec/01, 1.2 and 1.3), and what a plan replaces (1.9). -/

namespace Sys2Proof.PlanMembers

open Sys2Proof Sys2Proof.Machine Sys2Proof.Commands Sys2Proof.Apportioning

/-! ### The plan set (R3 to R8) -/

theorem mem_planSet {s : State} {m : Member} : m ∈ planSet s ↔ ∃ i, memberAt s i = some m := by
  simp [planSet, List.mem_filterMap, Indications.mem_idents]

theorem memberAt_own (s : State) : memberAt s s.stc.id = some (ownMember s) := if_pos rfl

theorem memberAt_peer {s : State} {j : Ident} {r : PeerRecord} (peer : j ≠ s.stc.id) (held : slotGet s.pt j = some r)
    (fresh : r.state = .fresh) : memberAt s j = some (peerMember j r) := by
  rw [memberAt, if_neg peer, held]
  exact if_pos fresh

/-- An identity gives a member when it is the own one or that of a FRESH record. -/
theorem memberAt_isSome_iff (s : State) (j : Ident) :
    (∃ m, memberAt s j = some m) ↔ j = s.stc.id ∨ ∃ r, slotGet s.pt j = some r ∧ r.state = .fresh := by
  constructor
  · rintro ⟨m, at_j⟩
    by_cases own : j = s.stc.id
    · exact .inl own
    · rw [memberAt, if_neg own] at at_j
      split at at_j
      · next r held =>
        split at at_j
        · next fresh => exact .inr ⟨r, held, fresh⟩
        · cases at_j
      · cases at_j
  · rintro (rfl | ⟨r, held, fresh⟩)
    · exact ⟨_, memberAt_own s⟩
    · by_cases own : j = s.stc.id
      · exact ⟨_, own ▸ memberAt_own s⟩
      · exact ⟨_, memberAt_peer own held fresh⟩

theorem exists_mem_planSet_iff (s : State) (j : Ident) : (∃ m ∈ planSet s, m.id = j) ↔ ∃ m, memberAt s j = some m := by
  constructor
  · rintro ⟨m, member, rfl⟩
    obtain ⟨i, at_i⟩ := mem_planSet.mp member
    exact ⟨m, (memberAt_some at_i).1 ▸ at_i⟩
  · rintro ⟨m, at_j⟩
    exact ⟨m, mem_planSet.mpr ⟨j, at_j⟩, (memberAt_some at_j).1⟩

theorem peerMember_capacity (j : Ident) (r : PeerRecord) :
    (peerMember j r).capacity = if degradedPending r then 0 else min r.capacity.toNat 2047 := by
  simp only [peerMember, counted]
  split <;> simp

/-- Settles O9: the members by identity, and the values of a peer's member and of the own one. -/
theorem planSetMembers : Obligations.PlanSetMembers := by
  intro s ms
  have own : ownMember s ∈ ms := mem_planSet.mpr ⟨_, memberAt_own s⟩
  refine ⟨⟨List.length_pos_of_mem own, List.length_filterMap_le _ _, List.pairwise_map.mpr (planSet_ascending s)⟩,
    fun j => (exists_mem_planSet_iff s j).trans (memberAt_isSome_iff s j), fun j r peer held fresh => ?_,
    _, own, rfl, rfl, rfl, rfl, rfl, rfl, rfl, rfl⟩
  refine ⟨_, mem_planSet.mpr ⟨j, memberAt_peer peer held fresh⟩, rfl, rfl, rfl, peerMember_capacity j r, ?_, ?_, ?_⟩
  · intro axle
    simp [peerMember, counted, axle]
  · intro a part
    simp [peerMember, counted, part]
  · intro e part
    simp [peerMember, counted, part]

/-! ### The drive axle (R9, R10, R19) -/

theorem driveAxle_some {ms : List Member} (asc : Ascending ms) {d : Member} (h : driveAxle ms = some d) :
    d ∈ ms ∧ d.role = .axle ∧ d.drive = true
      ∧ ∀ m ∈ ms, m.role = .axle → m.drive = true → d.id ≤ m.id := by
  obtain ⟨claims, before, after, split_at, none_before⟩ := List.find?_eq_some_iff_append.mp h
  obtain ⟨member, axle⟩ := mem_ofRole.mp (List.mem_of_find?_eq_some h)
  refine ⟨member, axle, claims, fun m hm role drive => ?_⟩
  have place : m ∈ before ++ d :: after := split_at ▸ mem_ofRole.mpr ⟨hm, role⟩
  obtain early | late := List.mem_append.mp place
  · have declines := none_before m early
    rw [drive] at declines
    cases declines
  · obtain rfl | later := List.mem_cons.mp late
    · exact le_rfl
    · have ascending : Ascending (before ++ d :: after) := split_at ▸ asc.ofRole .axle
      have below := (List.pairwise_cons.mp (List.pairwise_append.mp ascending).2.1).1
      exact (below m later).le

theorem driveAxle_none {ms : List Member} (h : driveAxle ms = none) : ∀ m ∈ ms, m.role = .axle → m.drive = false :=
  fun m hm role => by simpa using List.find?_eq_none.mp h m (mem_ofRole.mpr ⟨hm, role⟩)

theorem headroom_of_drive (d : Member) (t1 t2 : Nat) :
    headroom (some d) t1 t2 d = min d.capacity (d.limit - t1 - t2) := if_pos rfl

theorem headroom_of_plain {d m : Member} (other : m.id ≠ d.id) (t1 t2 : Nat) :
    headroom (some d) t1 t2 m = min m.capacity m.limit :=
  if_neg fun same => other (Option.some.inj same).symm

/-- Settles O10: the first claimant of an ascending plan set, or none. -/
theorem driveAxleIsTheLowestClaimant : Obligations.DriveAxleIsTheLowestClaimant := by
  intro s ms p
  have drive : p.drive = (driveAxle ms).map (·.id) := rfl
  have limit : p.limit = limitA (contFallbackUsed s.cfg) ms := rfl
  refine ⟨fun d found => ?_, fun absent => ?_⟩
  · obtain ⟨member, axle, claims, lowest⟩ := driveAxle_some (planSet_ascending s) found
    rw [found] at drive
    rw [limitA, found] at limit
    exact ⟨member, axle, claims, lowest, drive, limit, headroom_of_drive d _ _, fun m _ _ other => headroom_of_plain other _ _⟩
  · rw [absent] at drive
    rw [limitA, absent] at limit
    exact ⟨driveAxle_none absent, drive, limit, fun _ _ _ => rfl⟩

/-! ### The latest plan (R1, R31) -/

theorem takeTotal_ofRole (role : Role) (ms : List Member) :
    takeTotal (ofRole role ms) = (ms.map fun m => if m.role = role then m.take else 0).sum := by
  induction ms with
  | nil => rfl
  | cons m rest ih =>
    have head : takeTotal (ofRole role (m :: rest))
        = (if m.role = role then m.take else 0) + takeTotal (ofRole role rest) := by
      by_cases same : m.role = role <;> simp [takeTotal, ofRole, same]
    rw [head, ih, List.map_cons, List.sum_cons]

theorem planNow_eq_offer (s : State) :
    s.planNow
      = (s.setPe s.planNow.pe).offer (shortfallAlert s (computePlan s) s.planNow.pe) := by
  simp [State.planNow]

theorem planNow_plan (s : State) : s.planNow.pe.plan = latestOf s.stc.id (computePlan s) := by
  simp [State.planNow, peNext]

/-- A plan changes PE, STX and the access origin alone, the origin as R88 gives. -/
theorem planNow_kept_but (s : State) :
    s.planNow = { s with pe := s.planNow.pe, stx := s.planNow.stx, lp := { s.lp with origin := s.planNow.lp.origin } } := by
  have only := offer_onlyStxAndOrigin (shortfallAlert s (computePlan s) s.planNow.pe) (s.setPe s.planNow.pe)
  rw [← planNow_eq_offer] at only
  exact only

theorem originFollows_planNow (s : State) : OriginFollows s s.planNow := by
  have follows := originFollows_offer (shortfallAlert s (computePlan s) s.planNow.pe) (s.setPe s.planNow.pe)
  rw [← planNow_eq_offer] at follows
  exact follows

theorem ownDrive_iff (s : State) :
    (latestOf s.stc.id (computePlan s)).ownDrive = true ↔ ∃ d, driveAxle (planSet s) = some d ∧ d.id = s.stc.id := by
  have drive : (computePlan s).drive = (driveAxle (planSet s)).map (·.id) := rfl
  rw [latestOf, beq_iff_eq, drive, Option.map_eq_some_iff]

/-- Settles O14: the plan in ACTIVE with its frame, and nothing elsewhere. -/
theorem planReplacesTheLatestPlan : Obligations.PlanReplacesTheLatestPlan := by
  refine ⟨fun s active => ?_, fun s other => exec_of_work_self (if_neg other)⟩
  intro p
  refine ⟨_, Shortfall.exec_peEvaluationExpiry_of_active active, ?_⟩
  refine ⟨drivePins_of_eq (planNow_kept_but s), originFollows_congr (originFollows_planNow s) rfl rfl rfl rfl, ?_⟩
  rw [drivePins_pe, planNow_plan, ← takeTotal_ofRole, ← takeTotal_ofRole]
  exact ⟨rfl, rfl, ownDrive_iff s, rfl, rfl, rfl⟩

end Sys2Proof.PlanMembers
end

section
/-! PROOFS. The demand unit (spec/02): stalk, pedal, speed hold, own demand, merge and loss, each stage by its cases. -/

namespace Sys2Proof.DemandUnit

open Sys2Proof Sys2Proof.Machine Sys2Proof.Commands Sys2Proof.DemandAndCommand

/-! ### The evaluation as a whole (R34) -/

theorem exec_duEvaluationExpiry {s : State} (runs : demandRuns s.stc.state = true) (pa pb : BitVec 10) (stk : BitVec 3) :
    exec (.duEvaluationExpiry pa pb stk) s = .next (s.latchDriver pa pb stk).evaluateDemand.drivePins :=
  exec_of_work (if_pos runs)

theorem evaluateDemand_du (s : State) : s.evaluateDemand.du = mergeStage s (ownStages s) := by
  simp [State.evaluateDemand]

theorem evaluateDemand_eq_offer (s : State) :
    s.evaluateDemand
      = ((s.setDu s.evaluateDemand.du).offer (pedalAlert s.stc.id s.du.pedal (ownStages s).pedal)).offer
        (lossAlert s.stc.id (ownStages s) s.evaluateDemand.du) := by
  rw [evaluateDemand_du]
  rfl

/-- An evaluation changes DU, STX and the access origin alone. -/
theorem evaluateDemand_kept_but (s : State) :
    s.evaluateDemand
      = { s with
          du := s.evaluateDemand.du, stx := s.evaluateDemand.stx
          lp := { s.lp with origin := s.evaluateDemand.lp.origin } } := by
  have only := onlyStxAndOrigin_trans
    (offer_onlyStxAndOrigin (pedalAlert s.stc.id s.du.pedal (ownStages s).pedal) (s.setDu s.evaluateDemand.du))
    (offer_onlyStxAndOrigin (lossAlert s.stc.id (ownStages s) s.evaluateDemand.du) _)
  rw [← evaluateDemand_eq_offer] at only
  exact only

theorem originFollows_evaluateDemand (s : State) : OriginFollows s s.evaluateDemand := by
  have follows := originFollows_offer_offer (pedalAlert s.stc.id s.du.pedal (ownStages s).pedal)
    (lossAlert s.stc.id (ownStages s) s.evaluateDemand.du) (s.setDu s.evaluateDemand.du)
  rw [← evaluateDemand_eq_offer] at follows
  exact follows

/-- The merge touches no driver value. -/
theorem mergeStage_driver (s : State) (du : Du) :
    (mergeStage s du).pedal = du.pedal ∧ (mergeStage s du).stalk = du.stalk ∧ (mergeStage s du).invalidCount = du.invalidCount
      ∧ (mergeStage s du).hold = du.hold ∧ (mergeStage s du).target = du.target
      ∧ (mergeStage s du).integral = du.integral ∧ (mergeStage s du).holdDemand = du.holdDemand
      ∧ (mergeStage s du).own = du.own := by
  rw [mergeStage_kept]
  exact ⟨rfl, rfl, rfl, rfl, rfl, rfl, rfl, rfl⟩

/-! ### The alerts (R37, R47) -/

theorem pedalAlert_eq (own : Ident) (before after : PedalCondition) :
    pedalAlert own before after
      = if after = before ∨ after = .clear then none
        else some { code := 4, subject := BitVec.ofNat 8 own.val, detail := if after = .disagree then 0 else 1 } := by
  unfold pedalAlert
  split
  · next same => simp [same]
  · next changed =>
    have different : after ≠ before := fun same => changed same.symm
    cases after <;> simp [different, mkAlert, alertCode]

theorem lossAlert_eq (own : Ident) {before after old : Du} (phase : before.phase = old.phase) :
    lossAlert own before after
      = if old.phase = .sourced ∧ after.phase = .holding then
          some { code := 6, subject := BitVec.ofNat 8 own.val, detail := BitVec.ofNat 16 after.d }
        else none := by
  rw [lossAlert, phase]
  rfl

theorem evaluateDemand_stx (s : State) :
    s.evaluateDemand.stx
      = ((s.offer (if s.evaluateDemand.du.pedal = s.du.pedal ∨ s.evaluateDemand.du.pedal = .clear then none else some
            { code := 4, subject := BitVec.ofNat 8 s.stc.id.val
              detail := if s.evaluateDemand.du.pedal = .disagree then 0 else 1 })).offer
          (if s.du.phase = .sourced ∧ s.evaluateDemand.du.phase = .holding then some
            { code := 6, subject := BitVec.ofNat 8 s.stc.id.val, detail := BitVec.ofNat 16 s.evaluateDemand.du.d }
          else none)).stx := by
  have pedal : s.evaluateDemand.du.pedal = (ownStages s).pedal := by
    rw [evaluateDemand_du]
    exact (mergeStage_driver s (ownStages s)).1
  have loss := lossAlert_eq s.stc.id (after := s.evaluateDemand.du) (ownStages_sameMerge s).2.1
  rw [pedal, ← pedalAlert_eq, ← loss]
  conv_lhs => rw [evaluateDemand_eq_offer]
  exact offer_stx_congr _ (by simp) (offer_stx_congr _ rfl rfl)

/-! ### Stalk and pedal (R35 to R39) -/

theorem readingValid_iff (r : Nat) : readingValid r = true ↔ 10 ≤ r ∧ r ≤ 1013 := by simp [readingValid]

theorem stalkNext_of_valid (c : Cfg) (du : Du) {code : Nat} (valid : code ≤ 5) :
    (stalkNext c code du).stalk = code ∧ (stalkNext c code du).invalidCount = 0 := by
  rw [stalkNext, if_pos valid]
  exact ⟨rfl, rfl⟩

theorem stalkNext_of_invalid (c : Cfg) (du : Du) {code : Nat} (invalid : 5 < code) :
    (stalkNext c code du).invalidCount = min 255 (du.invalidCount + 1)
      ∧ (stalkNext c code du).stalk = if du.invalidCount + 1 ≤ c.loc.stalkHold then du.stalk else 0 := by
  rw [stalkNext, if_neg (Nat.not_le.mpr invalid)]
  refine ⟨rfl, ?_⟩
  by_cases held : du.invalidCount + 1 ≤ c.loc.stalkHold <;> simp [held, Nat.not_lt.mpr, Nat.not_le.mp]

/-- The driver stages, value by value. -/
theorem driverStages_values (c : Cfg) (h : HoldInputs) (pa pb stk : Nat) (du : Du) :
    let du2 : Du := { stalkNext c stk du with pedal := pedalConditionOf c pa pb }
    let du3 := driverStages c h pa pb stk du
    du3.stalk = (stalkNext c stk du).stalk ∧ du3.invalidCount = (stalkNext c stk du).invalidCount
      ∧ du3.pedal = pedalConditionOf c pa pb
      ∧ du3.own = max ((pedalDemand c pa pb).getD 0) (max (stalkDemandOf c du3.stalk) du3.holdDemand)
      ∧ du3.hold = (holdNext c h du.stalk du2).hold ∧ du3.target = (holdNext c h du.stalk du2).target
      ∧ du3.integral = (holdNext c h du.stalk du2).integral
      ∧ du3.holdDemand = (holdNext c h du.stalk du2).holdDemand := by
  intro du2 du3
  have kept := holdNext_kept c h du.stalk du2
  have stalk : (holdNext c h du.stalk du2).stalk = du2.stalk := by rw [kept]
  have invalid : (holdNext c h du.stalk du2).invalidCount = du2.invalidCount := by rw [kept]
  have pedal : (holdNext c h du.stalk du2).pedal = du2.pedal := by rw [kept]
  exact ⟨stalk, invalid, pedal, rfl, rfl, rfl, rfl, rfl⟩

theorem ownStages_of_source {s : State} (source : s.isSource = true) :
    ownStages s
      = driverStages s.cfg (holdInputsOf s) s.inp.pa.toNat s.inp.pb.toNat s.inp.stk.toNat s.du := if_pos source

/-- The distance of two readings, as the pedal check computes it. -/
theorem distance_eq_abs (a b : Nat) : (((a - b) + (b - a) : Nat) : Int) = |(a : Int) - (b : Int)| := by
  rw [Int.abs_eq_natAbs]
  omega

theorem pedalConditionOf_of_valid {c : Cfg} {pa pb : Nat} (a : readingValid pa = true) (b : readingValid pb = true) :
    (pedalConditionOf c pa pb = .disagree ↔ (min (c.loc.pedalDiff : Int) 1023) < |(pa : Int) - (pb : Int)|)
      ∧ pedalConditionOf c pa pb ≠ .bothInvalid := by
  have apart : pedalDiffUsed c < (pa - pb) + (pb - pa) ↔ (min (c.loc.pedalDiff : Int) 1023) < |(pa : Int) - (pb : Int)| := by
    rw [← distance_eq_abs, ← Nat.cast_lt (α := Int), pedalDiffUsed, Nat.cast_min]
    rfl
  rw [← apart]
  simp only [pedalConditionOf, a, b]
  split
  · next far => simp [far]
  · next near => simp [near]

theorem channelDemand_eq (c : Cfg) (r : Nat) :
    (channelDemand c r : Int)
      = max 0 (min 2047 (((r : Int) - (min c.loc.pedalDead 1023 : Nat)) * c.loc.pedalGain / 256)) := by
  rw [channelDemand, pedalDeadUsed, clampNat]
  omega

/-- The pedal demand with each pair of valid and invalid readings (R35, R36). -/
theorem pedalDemand_eq {c : Cfg} {pa pb : Nat} {demand : Int}
    (both : readingValid pa = true → readingValid pb = true → demand = max (channelDemand c pa : Int) (channelDemand c pb))
    (first : readingValid pa = true → ¬readingValid pb = true → demand = channelDemand c pa)
    (second : ¬readingValid pa = true → readingValid pb = true → demand = channelDemand c pb)
    (neither : ¬readingValid pa = true → ¬readingValid pb = true → demand = 0) :
    (((pedalDemand c pa pb).getD 0 : Nat) : Int) = demand := by
  unfold pedalDemand
  cases a : readingValid pa <;> cases b : readingValid pb
  · exact (neither (by simp [a]) (by simp [b])).symm
  · exact (second (by simp [a]) b).symm
  · exact (first a (by simp [b])).symm
  · rw [both a b]
    exact Nat.cast_max _ _

theorem stalkDemandOf_eq (c : Cfg) (code : Nat) :
    stalkDemandOf c code
      = if code = 1 then min c.loc.stalkLevel1 2047
        else if code = 2 then min c.loc.stalkLevel2 2047
        else if code = 3 then min c.loc.stalkLevel3 2047
        else if code = 4 then min c.loc.stalkLevel4 2047
        else 0 := by
  unfold stalkDemandOf
  split
  all_goals simp_all

/-- Settles O16: the frame, the alerts, and the values of a demand source one by one. -/
theorem demandEvaluation : Obligations.DemandEvaluation := by
  refine ⟨fun s pa pb stk runs => ?_, fun s pa pb stk rests => ?_⟩
  rotate_left
  · have nothing : work (.duEvaluationExpiry pa pb stk) s = s.latchDriver pa pb stk := if_neg (by simp [rests])
    exact exec_of_work nothing
  intro valid channel stalkDemand
  let s1 := s.latchDriver pa pb stk
  refine ⟨_, exec_duEvaluationExpiry runs pa pb stk, drivePins_of_eq (evaluateDemand_kept_but s1),
    originFollows_congr (originFollows_evaluateDemand s1) rfl rfl rfl rfl, ?_, fun source => ?_⟩
  · rw [drivePins_stx, drivePins_du, evaluateDemand_stx s1]
    exact offer_stx_congr _ (by simp [s1]) (offer_stx_congr _ rfl rfl)
  · obtain ⟨pedal, stalk, invalid, -, -, -, holdDemand, own⟩ := mergeStage_driver s1 (ownStages s1)
    have driver : ownStages s1 = driverStages s1.cfg (holdInputsOf s1) pa.toNat pb.toNat stk.toNat s1.du :=
      ownStages_of_source source
    rw [drivePins_du, evaluateDemand_du, pedal, stalk, invalid, holdDemand, own, driver]
    obtain ⟨stalk3, invalid3, pedal3, own3, -⟩ :=
      driverStages_values s1.cfg (holdInputsOf s1) pa.toNat pb.toNat stk.toNat s1.du
    have stalkDemand_eq (code : Nat) : stalkDemandOf s1.cfg code = stalkDemand code := stalkDemandOf_eq _ _
    have channel_eq (r : BitVec 10) : (channelDemand s1.cfg r.toNat : Int) = channel r := channelDemand_eq _ _
    have valid_iff (r : BitVec 10) : readingValid r.toNat = true ↔ valid r := readingValid_iff _
    refine ⟨fun code => ?_, fun code => ?_, fun a b => ?_, fun one => ?_, fun a b => ?_,
      fun demand both first second neither => ?_⟩
    · exact ⟨stalk3.trans (stalkNext_of_valid _ _ code).1, invalid3.trans (stalkNext_of_valid _ _ code).2⟩
    · exact ⟨invalid3.trans (stalkNext_of_invalid _ _ code).1, stalk3.trans (stalkNext_of_invalid _ _ code).2⟩
    · refine pedal3.trans ?_
      rw [← valid_iff, Bool.not_eq_true] at a b
      simp only [pedalConditionOf, a, b]
    · refine pedal3.trans ?_
      rw [← valid_iff, ← valid_iff] at one
      cases a : readingValid pa.toNat <;> cases b : readingValid pb.toNat <;> simp [a, b, pedalConditionOf] at one ⊢
    · exact pedal3 ▸ pedalConditionOf_of_valid ((valid_iff pa).mpr a) ((valid_iff pb).mpr b)
    · rw [own3, stalkDemand_eq, Nat.cast_max, Nat.cast_max, pedalDemand_eq (demand := demand)] <;>
        simpa only [valid_iff, channel_eq]

/-! ### The speed hold (R40 to R43) -/

theorem holdNext_of_left (c : Cfg) (h : HoldInputs) (previous : Nat) {du : Du} (left : du.stalk ≠ 5) :
    (holdNext c h previous du).hold = .off ∧ (holdNext c h previous du).holdDemand = 0
      ∧ (holdNext c h previous du).target = du.target ∧ (du.hold ≠ .off → (holdNext c h previous du).integral = 0) := by
  rw [holdNext, if_neg left]
  cases hold : du.hold
  · exact ⟨rfl, rfl, rfl, fun on => absurd rfl on⟩
  · exact ⟨rfl, rfl, rfl, fun _ => rfl⟩
  · exact ⟨rfl, rfl, rfl, fun _ => rfl⟩

/-- An entry with Vref at hand latches; without it the hold waits (R40). -/
theorem holdNext_of_entering (c : Cfg) (h : HoldInputs) {previous : Nat} {du : Du} (stalk : du.stalk = 5)
    (entering : du.hold = .pending ∨ du.hold = .off ∧ previous ≠ 5) :
    (∀ v, h.vref = some v → holdNext c h previous du = holdLatch v du)
      ∧ (h.vref = none → holdNext c h previous du = { du with hold := .pending, holdDemand := 0 }) := by
  rw [holdNext, if_pos stalk]
  obtain pending | ⟨off, other⟩ := entering
  · simp only [pending]
    refine ⟨fun v vref => by simp only [vref], fun vref => ?_⟩
    simp only [vref, ← pending]
  · simp only [off, if_neg other]
    exact ⟨fun v vref => by simp only [vref], fun vref => by simp only [vref]⟩

theorem holdNext_of_holding (c : Cfg) (h : HoldInputs) (previous : Nat) {du : Du} (stalk : du.stalk = 5)
    (holding : du.hold = .holding) : holdNext c h previous du = holdStep c h du := by
  rw [holdNext, if_pos stalk]
  simp only [holding]

theorem holdInputsOf_vref {s : State} :
    (s.am.vrefState ≠ .unavailable → (holdInputsOf s).vref = some s.am.vref)
      ∧ (¬s.am.vrefState ≠ .unavailable → (holdInputsOf s).vref = none) := by
  unfold holdInputsOf vrefAvailable
  cases s.am.vrefState <;> simp

theorem holdInputsOf_barred_iff (s : State) :
    (holdInputsOf s).barred = true ↔ 0 < s.pe.plan.s ∨ s.pe.shortfall = true := by
  simp [holdInputsOf]

theorem clampNat_cast (x : Int) : (clampNat x 2047 : Int) = max 0 (min 2047 x) := by
  unfold clampNat
  omega

/-- The integral of an evaluation in HOLDING (R41). -/
theorem integralNext_cases (c : Cfg) (barred : Bool) (e : Int) (i : Nat) :
    (0 < e * c.loc.ki / 64 ∧ barred = true → integralNext c barred e i = i)
      ∧ (¬(0 < e * c.loc.ki / 64 ∧ barred = true) →
          (integralNext c barred e i : Int) = max 0 (min 2047 (i + e * c.loc.ki / 64))) := by
  refine ⟨fun bar => if_pos bar, fun free => ?_⟩
  rw [integralNext, if_neg free]
  exact clampNat_cast _

/-- Settles O17: the hold left, entered with and without Vref, and held with and without it. -/
theorem speedHold : Obligations.SpeedHold := by
  intro s pa pb stk runs source available entering e rise barred
  let s1 := s.latchDriver pa pb stk
  let du2 : Du := { stalkNext s.cfg stk.toNat s.du with pedal := pedalConditionOf s.cfg pa.toNat pb.toNat }
  have driver : ownStages s1 = driverStages s.cfg (holdInputsOf s) pa.toNat pb.toNat stk.toNat s.du :=
    ownStages_of_source source
  obtain ⟨-, stalk, -, hold, target, integral, holdDemand, -⟩ := mergeStage_driver s1 (ownStages s1)
  obtain ⟨stalk3, -, -, -, hold3, target3, integral3, holdDemand3⟩ :=
    driverStages_values s.cfg (holdInputsOf s) pa.toNat pb.toNat stk.toNat s.du
  have kept := stalkNext_kept s.cfg stk.toNat s.du
  have hold2 : du2.hold = s.du.hold := by simp only [du2]; rw [kept]
  have target2 : du2.target = s.du.target := by simp only [du2]; rw [kept]
  have integral2 : du2.integral = s.du.integral := by simp only [du2]; rw [kept]
  have d2 : du2.d = s.du.d := by simp only [du2]; rw [kept]
  obtain ⟨with_vref, without_vref⟩ := holdInputsOf_vref (s := s)
  refine ⟨_, exec_duEvaluationExpiry runs pa pb stk, ?_⟩
  rw [drivePins_du, evaluateDemand_du, stalk, hold, target, integral, holdDemand, driver, stalk3, hold3, target3, integral3,
    holdDemand3]
  refine ⟨fun code => ?_, fun code enters at_hand => ?_, fun code enters away => ?_, fun code holding at_hand => ?_,
    fun code holding away => ?_⟩
  · obtain ⟨off, demand, target', integral'⟩ := holdNext_of_left s.cfg (holdInputsOf s) s.du.stalk (du := du2) code
    exact ⟨off, demand, target'.trans target2, fun on => integral' (hold2 ▸ on)⟩
  · rw [(holdNext_of_entering s.cfg (holdInputsOf s) (du := du2) code (by rw [hold2]; exact enters)).1 _
      (with_vref at_hand)]
    exact ⟨rfl, rfl, congrArg (min 2047) d2, rfl⟩
  · rw [(holdNext_of_entering s.cfg (holdInputsOf s) (du := du2) code (by rw [hold2]; exact enters)).2
      (without_vref away)]
    exact ⟨rfl, target2, integral2, rfl⟩
  · have stepped : holdNext s.cfg (holdInputsOf s) s.du.stalk du2
        = { du2 with
            integral := integralNext s.cfg (holdInputsOf s).barred e s.du.integral
            holdDemand := holdDemandOf s.cfg e (integralNext s.cfg (holdInputsOf s).barred e s.du.integral) } := by
      rw [holdNext_of_holding _ _ _ (du := du2) code (hold2.trans holding), holdStep, with_vref at_hand]
      simp only [target2, integral2, e]
    have barred_iff : barred ↔ 0 < e * s.cfg.loc.ki / 64 ∧ (holdInputsOf s).barred = true := by
      rw [holdInputsOf_barred_iff]
    obtain ⟨bar, free⟩ := integralNext_cases s.cfg (holdInputsOf s).barred e s.du.integral
    rw [stepped]
    exact ⟨hold2.trans holding, target2, fun yes => bar (barred_iff.mp yes), fun no => free (mt barred_iff.mpr no),
      clampNat_cast _⟩
  · rw [holdNext_of_holding _ _ _ (du := du2) code (hold2.trans holding), holdStep, without_vref away]
    exact ⟨hold2.trans holding, target2, integral2, rfl⟩

end Sys2Proof.DemandUnit
end

section
/-! PROOFS. The merged demand and the loss phases (spec/02, 2.6 and 2.7), and the station that is no demand source. -/

namespace Sys2Proof.DemandMerge

open Sys2Proof Sys2Proof.Machine Sys2Proof.Commands Sys2Proof.DemandAndCommand Sys2Proof.DemandUnit

/-! ### What contributes (R45, R46) -/

theorem peerDemand_eq_some_iff {c : Cfg} {slot : Option PeerRecord} {v : Nat} :
    peerDemand c slot = some v ↔
      ∃ r p, slot = some r ∧ r.state = .fresh ∧ r.demand = some p ∧ p.age < c.shared.demandAge
        ∧ v = min p.value.toNat 2047 := by
  constructor
  · intro h
    unfold peerDemand at h
    split at h
    · next r =>
      split at h
      · next p fresh demand =>
        split at h
        · next young => exact ⟨r, p, rfl, fresh, demand, young, (Option.some.inj h).symm⟩
        · cases h
      · cases h
    · cases h
  · rintro ⟨r, p, rfl, fresh, demand, young, rfl⟩
    simp only [peerDemand, fresh, demand, if_pos young]

theorem mem_contributions_iff {c : Cfg} {t : PeerTable} {own v : Nat} :
    v ∈ contributions c t own ↔
      c.loc.demandSource = true ∧ v = own
        ∨ ∃ j r p, slotGet t j = some r ∧ r.state = .fresh ∧ r.demand = some p ∧ p.age < c.shared.demandAge
            ∧ v = min p.value.toNat 2047 := by
  have from_peers : v ∈ peerDemands c t ↔ ∃ j, peerDemand c (slotGet t j) = some v := by
    simp [peerDemands, List.mem_filterMap, Indications.mem_idents]
  rw [contributions, List.mem_append, from_peers]
  simp only [peerDemand_eq_some_iff]
  cases c.loc.demandSource <;> simp

/-! ### The merge by its cases (R46 to R48) -/

/-- With a contribution D is the largest of them. -/
theorem mergeNext_of_contribution {c : Cfg} {t : PeerTable} {du : Du} (some : contributions c t du.own ≠ []) :
    (mergeNext c t du).phase = .sourced ∧ (mergeNext c t du).d ∈ contributions c t du.own
      ∧ ∀ v ∈ contributions c t du.own, v ≤ (mergeNext c t du).d := by
  obtain ⟨x, rest, contributes⟩ := List.exists_cons_of_ne_nil some
  have merged : mergeNext c t du = { du with d := (contributions c t du.own).foldl max 0, phase := .sourced } := by
    rw [mergeNext, contributes]
  rw [merged]
  exact ⟨rfl, foldl_max_zero_mem some, (foldl_max_spec _ 0).2.2⟩

/-- D and the phase without a contribution, by the phase before. -/
theorem mergeNext_of_none {c : Cfg} {t : PeerTable} {du : Du} (none : contributions c t du.own = []) :
    (du.phase = .unsourced → (mergeNext c t du).d = du.d ∧ (mergeNext c t du).phase = .unsourced)
      ∧ (du.phase = .sourced →
          (mergeNext c t du).d = du.d ∧ (mergeNext c t du).phase = .holding ∧ (mergeNext c t du).lossCount = 1)
      ∧ (du.phase = .holding → du.lossCount < c.shared.demandHold →
          (mergeNext c t du).d = du.d ∧ (mergeNext c t du).phase = .holding
            ∧ (mergeNext c t du).lossCount = du.lossCount + 1)
      ∧ (du.phase = .holding ∧ c.shared.demandHold ≤ du.lossCount ∨ du.phase = .ramping →
          mergeNext c t du = rampDown c du) := by
  rw [mergeNext, none]
  refine ⟨fun phase => ?_, fun phase => ?_, fun phase short => ?_, ?_⟩
  · simp only [phase]
    exact ⟨trivial, trivial⟩
  · simp only [phase]
    exact ⟨trivial, trivial, trivial⟩
  · simp only [phase, if_pos short]
    exact ⟨trivial, trivial, trivial⟩
  · rintro (⟨phase, long⟩ | phase)
    · simp only [phase, if_neg (Nat.not_lt.mpr long)]
    · simp only [phase]

/-- Settles O18: the stage skipped in LOCAL, a contribution at hand, and none by the phase before. -/
theorem demandMergeAndLoss : Obligations.DemandMergeAndLoss := by
  intro s pa pb stk runs
  let s1 := s.latchDriver pa pb stk
  obtain ⟨d, phase, lossCount⟩ := ownStages_sameMerge s1
  refine ⟨_, exec_duEvaluationExpiry runs pa pb stk, fun localOnly => ?_, fun other => ?_⟩
  · have skipped : mergeStage s1 (ownStages s1) = ownStages s1 := if_pos localOnly
    rw [drivePins_du, evaluateDemand_du, skipped]
    exact ⟨d, phase, lossCount⟩
  · intro contributes ramped
    obtain ⟨-, -, -, -, -, -, -, own⟩ := mergeStage_driver s1 (ownStages s1)
    have merged : mergeStage s1 (ownStages s1) = mergeNext s.cfg s.pt (ownStages s1) := if_neg other
    have mem_iff (v : Nat) : v ∈ contributions s.cfg s.pt (ownStages s1).own ↔ contributes v := by
      rw [mem_contributions_iff]
      simp only [contributes]
      rw [drivePins_du, evaluateDemand_du, own]
      rfl
    rw [drivePins_du, evaluateDemand_du, merged]
    refine ⟨fun ⟨v, contributed⟩ => ?_, fun none => ?_⟩
    · obtain ⟨sourced, mem, largest⟩ := mergeNext_of_contribution (du := ownStages s1)
        (List.ne_nil_of_mem ((mem_iff v).mpr contributed))
      exact ⟨sourced, (mem_iff _).mp mem, fun v hv => largest v ((mem_iff v).mpr hv)⟩
    · have empty : contributions s.cfg s.pt (ownStages s1).own = [] :=
        List.eq_nil_iff_forall_not_mem.mpr fun v mem => none ⟨v, (mem_iff v).mp mem⟩
      obtain ⟨unsourced, sourced, holding, ramping⟩ := mergeNext_of_none empty
      rw [d, phase] at unsourced sourced
      rw [d, phase, lossCount] at holding
      rw [phase, lossCount] at ramping
      refine ⟨unsourced, sourced, holding, fun ramps => ?_⟩
      rw [ramping ramps, rampDown, d]
      exact ⟨rfl, rfl⟩

/-! ### A station that is no demand source (chapter 2, opening) -/

theorem putStx_setInp (s : State) (inp : InPins) (x : Stx) : (s.setInp inp).putStx x = (s.putStx x).setInp inp := by
  rw [putStx_eq, putStx_eq]
  rfl

theorem fillUrgent_setInp (s : State) (inp : InPins) : (s.setInp inp).fillUrgent = s.fillUrgent.setInp inp := by
  unfold State.fillUrgent
  simp only [setInp_stc, setInp_stx, putStx_setInp]
  split <;> rfl

theorem offer_setInp (s : State) (inp : InPins) (a : Option Alert) : (s.setInp inp).offer a = (s.offer a).setInp inp := by
  cases a with
  | none => rfl
  | some a =>
    rw [offer_some, offer_some, State.offerAlert, State.offerAlert, setInp_stc]
    split
    · exact fillUrgent_setInp (s.setStx { s.stx with queue := enqueue a s.stx.queue }) inp
    · rfl

/-- Without a driver the levels at the pins pass an evaluation unread. -/
theorem evaluateDemand_setInp {s : State} (notSource : s.isSource = false) (inp : InPins) :
    (s.setInp inp).evaluateDemand = s.evaluateDemand.setInp inp := by
  have driver : ownStages s = s.du := ownStages_of_not_source notSource
  have driver' : ownStages (s.setInp inp) = s.du := ownStages_of_not_source (s := s.setInp inp) notSource
  unfold State.evaluateDemand
  rw [driver, driver', ← offer_setInp, ← offer_setInp]
  rfl

/-- The evaluation of a station that is no demand source: one and the same, under the levels presented. -/
theorem work_of_not_source {s : State} (notSource : s.isSource = false) (pa pb : BitVec 10) (stk : BitVec 3) :
    work (.duEvaluationExpiry pa pb stk) s
      = (if demandRuns s.stc.state = true then s.evaluateDemand else s).setInp
        { s.inp with pa := pa, pb := pb, stk := stk } := by
  simp only [work]
  split
  · exact evaluateDemand_setInp notSource _
  · rfl

theorem evaluateDemand_driver_of_not_source {s : State} (notSource : s.isSource = false) :
    s.evaluateDemand.du.pedal = s.du.pedal ∧ s.evaluateDemand.du.stalk = s.du.stalk
      ∧ s.evaluateDemand.du.hold = s.du.hold ∧ s.evaluateDemand.du.own = s.du.own := by
  obtain ⟨pedal, stalk, -, hold, -, -, -, own⟩ := mergeStage_driver s (ownStages s)
  rw [evaluateDemand_du, pedal, stalk, hold, own, ownStages_of_not_source notSource]
  exact ⟨rfl, rfl, rfl, rfl⟩

/-- Settles O19: both evaluations are the one that reads no pin. -/
theorem nonSourceReadsNoDriverPins : Obligations.NonSourceReadsNoDriverPins := by
  intro s pa pb pa' pb' stk stk' notSource
  refine ⟨_, _, exec_of_work (work_of_not_source notSource pa pb stk),
    exec_of_work (work_of_not_source notSource pa' pb' stk'), rfl, ?_⟩
  rw [drivePins_du, setInp_du]
  split
  · exact evaluateDemand_driver_of_not_source notSource
  · exact ⟨rfl, rfl, rfl, rfl⟩

end Sys2Proof.DemandMerge
end

section
/-! PROOFS. The peer table (spec/03): ageing, and what each kind of statement does at a record of each state. -/

namespace Sys2Proof.Records

open Sys2Proof Sys2Proof.Machine Sys2Proof.Commands Sys2Proof.Table

/-- Settles O20: a slot is aged by its record's state and its new age. -/
theorem ageExpiryAgesEverySlot : Obligations.AgeExpiryAgesEverySlot := by
  intro s
  refine ⟨_, exec_of_work rfl, rfl, fun j => ?_⟩
  have aged : slotGet (work .ageExpiry s).drivePins.pt j = agedSlot s.cfg (slotGet s.pt j) := slotGet_slotsMap _ _ _
  rw [aged]
  refine ⟨fun empty => by rw [empty]; rfl, fun r held => ?_⟩
  intro age older'
  have slot : agedSlot s.cfg (slotGet s.pt j) = agedRecord s.cfg r := by rw [held]; rfl
  rw [slot]
  refine ⟨fun fresh young => ?_, fun fresh old => ?_, fun other young => ?_, fun other old => ?_⟩
  · rw [agedRecord_of_fresh _ fresh, if_neg (Nat.not_le.mpr young)]
    rfl
  · rw [agedRecord_of_fresh _ fresh, if_pos old]
    rfl
  · rw [agedRecord_of_not_fresh _ other, if_neg (Nat.not_le.mpr young)]
    rfl
  · rw [agedRecord_of_not_fresh _ other, if_pos old]

/-! ### A STANDING at a slot (R56 to R64) -/

theorem arriveAt_standing_of_role {own : Half} {f : StandingFields} {role : Role} (named : roleOfCode f.role.toNat = some role)
    (seq : BitVec 8) (slot : Option PeerRecord) :
    arriveAt own (.standing f) seq slot = some (standingAtSlot own role f seq slot) := by
  simp only [arriveAt, takeStandingAt, named]

theorem arriveAt_standing_of_no_role {own : Half} {f : StandingFields} (code : f.role = 3) (seq : BitVec 8)
    (slot : Option PeerRecord) : arriveAt own (.standing f) seq slot = slot := by
  simp only [arriveAt, takeStandingAt, (Peers.roleOfCode_eq_none_iff f.role).mpr code]

/-- A newer STANDING at a FRESH record, and any at a STALE one, is stored (R60, R61). -/
theorem standingAtSlot_of_taken (own : Half) (role : Role) (f : StandingFields) {seq : BitVec 8} {r : PeerRecord}
    (taken : r.state = .fresh ∧ seqNewer seq r.seq = true ∨ r.state = .stale) :
    standingAtSlot own role f seq (some r) = stored own role f seq r := by
  obtain ⟨fresh, newer⟩ | stale := taken
  · simp only [standingAtSlot, fresh, newer, if_true]
  · simp only [standingAtSlot, stale]

/-- Settles O22: a role that is named, and the record's state. -/
theorem standingArrival : Obligations.StandingArrival := by
  intro own f seq role arrive fresh
  have learned_eq : learned own role f seq = fresh := rfl
  refine ⟨fun code slot => arriveAt_standing_of_no_role code seq slot, fun named => ?_⟩
  have arrive_eq (slot : Option PeerRecord) : arrive slot = some (standingAtSlot own role f seq slot) :=
    arriveAt_standing_of_role named seq slot
  simp only [arrive_eq, Option.some.injEq]
  refine ⟨rfl, fun r => ⟨fun taken => ?_, fun left newer => ?_, fun mismatched => ?_, fun state old => ?_⟩⟩
  · rw [standingAtSlot_of_taken own role f taken]
    refine ⟨fun same profile => ?_, fun differs => ?_⟩
    · rw [stored, if_pos ⟨same, profile⟩, updated, ← same, learned_eq]
    · rw [stored, if_neg fun both => differs.elim (· both.1) (· both.2), learned_eq]
  · simp only [standingAtSlot, left, newer, if_true, learned_eq]
  · simp only [standingAtSlot, mismatched, learned_eq]
  · exact Peers.standingAtSlot_some_of_not_passes own role f ((Peers.seqPasses_of_fresh_or_left state).trans old)

/-! ### DEMAND, ALERT and LEAVE (R66 to R69) -/

theorem acceptsValue_iff (seq : BitVec 8) (r : PeerRecord) :
    acceptsValue seq r = true ↔ r.state = .fresh ∧ seqNewer seq r.seq = true ∨ r.state = .stale := by
  cases state : r.state <;> simp [acceptsValue, state]

theorem seqPasses_of_newer_or_state {seq : BitVec 8} {r : PeerRecord}
    (h : seqNewer seq r.seq = true ∨ r.state = .stale ∨ r.state = .mismatch) : Peers.seqPasses seq r = true := by
  cases state : r.state <;> simp_all [Peers.seqPasses]

theorem markAfter_eq (code : BitVec 8) (old : Option AlertPart) :
    markAfter code old = (code == 2 || (old.map (·.degradedPending)).getD false) := by
  by_cases degraded : code = 2#8 <;> simp [markAfter, alertCode, degraded]

theorem arriveAt_none_of_not_standing (own : Half) {stmt : Statement} (other : ∀ f, stmt ≠ .standing f) (seq : BitVec 8) :
    arriveAt own stmt seq none = none := by
  cases stmt with
  | standing f => exact absurd rfl (other f)
  | demand v => rfl
  | alert a => rfl
  | leave => rfl

/-- Settles O23: each statement taken, and each discarded. -/
theorem valueAndLeaveArrival : Obligations.ValueAndLeaveArrival := by
  intro own seq
  refine ⟨fun stmt other => arriveAt_none_of_not_standing own other seq, fun r => ?_⟩
  intro newer taken
  have discarded {stmt : Statement} (h : Peers.accepts stmt seq r = false) : arriveAt own stmt seq (some r) = some r :=
    Peers.arriveAt_of_not_accepts own h
  have refused (h : ¬taken) : acceptsValue seq r = false := Bool.eq_false_iff.mpr (mt (acceptsValue_iff seq r).mp h)
  refine ⟨fun v h => ?_, fun v h => discarded (refused h), fun a h => ?_, fun a h => discarded (refused h), fun h => ?_,
    fun old state => discarded ((Peers.seqPasses_of_fresh_or_left state).trans old)⟩
  · simp only [arriveAt, takeDemandAt, Option.map_some, (acceptsValue_iff seq r).mpr h, if_true]
  · simp only [arriveAt, takeAlertAt, Option.map_some, (acceptsValue_iff seq r).mpr h, if_true, markAfter_eq]
  · simp only [arriveAt, Peers.takeLeaveAt_some, seqPasses_of_newer_or_state h, if_true, leftRecord]

end Sys2Proof.Records
end

section
/-! PROOFS. What the station hears, character by character (spec/04, 4.5 and 4.6): where each character leads, the receive errors
and their count, and the change of standing that a count brings. -/

namespace Sys2Proof.Reception

open Sys2Proof Sys2Proof.Machine Sys2Proof.Commands Sys2Proof.Paths

/-! ### A change of standing (R99, R162) -/

theorem takeStanding_of_same {s : State} {before : Standing} (same : before = .silent ↔ s.standing = .silent) :
    s.takeStanding before = s := by
  unfold State.takeStanding
  split
  · exact if_neg fun became => became.1 (same.mpr became.2)
  · exact if_neg fun left => left.2 (same.mp left.1)
  all_goals rfl

theorem takeStanding_of_not_active {s : State} {before : Standing} (speaks : before ≠ .silent)
    (other : s.stc.state ≠ .active) : s.takeStanding before = s := by
  unfold State.takeStanding
  split
  · next active => exact absurd active other
  · exact if_neg fun left => speaks left.1
  all_goals rfl

theorem takeStanding_of_not_local {s : State} {before : Standing} (silent : before = .silent)
    (other : s.stc.state ≠ .localOnly) : s.takeStanding before = s := by
  unfold State.takeStanding
  split
  · exact if_neg fun became => became.1 silent
  · next localOnly => exact absurd localOnly other
  all_goals rfl

theorem takeStanding_of_silenced {s : State} {before : Standing} (speaks : before ≠ .silent) (now : s.standing = .silent)
    (active : s.stc.state = .active) : s.takeStanding before = s.enterLocal := by
  simp only [State.takeStanding, active, if_pos (And.intro speaks now)]

theorem takeStanding_of_recovered {s : State} {before : Standing} (silent : before = .silent) (now : s.standing ≠ .silent)
    (localOnly : s.stc.state = .localOnly) : s.takeStanding before = s.enterListen := by
  simp only [State.takeStanding, localOnly, if_pos (And.intro silent now)]

theorem standing_silent_iff (s : State) : s.standing = .silent ↔ 192 ≤ s.lp.trouble := standingOf_silent_iff _

/-! ### A counted receive error (R95, R98, R100) -/

theorem lpReceiveError_of_silent {lp : Lp} (silent : 192 ≤ lp.trouble) :
    lpReceiveError lp = { lp with recovery := 0 } := if_pos ((standingOf_silent_iff _).mpr silent)

theorem lpRaise_of_speaking {lp : Lp} {n : Nat} (speaks : lp.trouble < 192) (below : lp.trouble + n < 192) :
    lpRaise n lp = { lp with trouble := lp.trouble + n } := by
  have frozen : ¬standingOf lp.trouble = .silent := by rw [standingOf_silent_iff]; omega
  have count : min 255 (lp.trouble + n) = lp.trouble + n := by omega
  have still : ¬standingOf (lp.trouble + n) = .silent := by rw [standingOf_silent_iff]; omega
  rw [lpRaise, if_neg frozen, count]
  simp only [if_neg still]

theorem lpRaise_of_silenced {lp : Lp} {n : Nat} (speaks : lp.trouble < 192) (reaches : 192 ≤ lp.trouble + n) :
    lpRaise n lp = { lp with trouble := min 255 (lp.trouble + n), recovery := 0 } := by
  have frozen : ¬standingOf lp.trouble = .silent := by rw [standingOf_silent_iff]; omega
  have silent : standingOf (min 255 (lp.trouble + n)) = .silent := by rw [standingOf_silent_iff]; omega
  rw [lpRaise, if_neg frozen]
  simp only [if_pos silent]

theorem lpRaise_of_silent {lp : Lp} (n : Nat) (silent : 192 ≤ lp.trouble) : lpRaise n lp = lp :=
  if_pos ((standingOf_silent_iff _).mpr silent)

theorem lpReceiveError_of_speaking {lp : Lp} (speaks : lp.trouble < 192) : lpReceiveError lp = lpRaise 1 lp :=
  if_neg (by rw [standingOf_silent_iff]; omega)

theorem receiveError_of_other (s : State) :
    s.receiveError false = (s.setRx .hunting).countLp (lpReceiveError (s.setRx .hunting).lp) := rfl

theorem receiveError_of_silent {s : State} (silent : 192 ≤ s.lp.trouble) :
    s.receiveError false = (s.setRx .hunting).setLp { (s.setRx .hunting).lp with recovery := 0 } := by
  rw [receiveError_of_other, lpReceiveError_of_silent (lp := (s.setRx .hunting).lp) silent]
  exact takeStanding_of_same Iff.rfl

theorem receiveError_of_speaking {s : State} (below : s.lp.trouble < 191) :
    s.receiveError false = (s.setRx .hunting).setLp { (s.setRx .hunting).lp with trouble := s.lp.trouble + 1 } := by
  have speaks : s.lp.trouble < 192 := by omega
  rw [receiveError_of_other, lpReceiveError_of_speaking (lp := (s.setRx .hunting).lp) speaks,
    lpRaise_of_speaking (lp := (s.setRx .hunting).lp) (n := 1) speaks (Nat.succ_lt_succ below)]
  refine takeStanding_of_same ?_
  rw [standing_silent_iff, standing_silent_iff]
  show 192 ≤ s.lp.trouble ↔ 192 ≤ s.lp.trouble + 1
  omega

/-- LP at the error that makes the station SILENT. -/
theorem receiveError_of_last {s : State} (last : s.lp.trouble = 191) :
    s.receiveError false
      = ((s.setRx .hunting).setLp { (s.setRx .hunting).lp with trouble := 192, recovery := 0 }).takeStanding
        s.standing := by
  have speaks : s.lp.trouble < 192 := by omega
  rw [receiveError_of_other, lpReceiveError_of_speaking (lp := (s.setRx .hunting).lp) speaks,
    lpRaise_of_silenced (lp := (s.setRx .hunting).lp) (n := 1) speaks (by show 192 ≤ s.lp.trouble + 1; omega)]
  have count : min 255 ((s.setRx .hunting).lp.trouble + 1) = 192 := by
    show min 255 (s.lp.trouble + 1) = 192
    omega
  rw [count]
  rfl

/-! ### Where a character leads (R94) -/

/-- The state in which a character is judged: the field tail has done its work (log 5). -/
def judged (s : State) : State := s.setLp { s.lp with tail := .none }

theorem work_characterReceived {s : State} (op : operating s.stc.state = true) (c : Character) :
    work (.characterReceived c) s = (judged s).characterArrives c (underDE s) (ownCompleted s c) := if_pos op

theorem characterArrives_of_disarmed {s : State} (disarmed : s.lp.rx = .disarmed) (c : Character) (own completed : Bool) :
    s.characterArrives c own completed = s := by
  simp only [State.characterArrives, disarmed]

theorem characterArrives_of_hunting {s : State} (hunting : s.lp.rx = .hunting) {c : Character} (mark : charMark c = false)
    (own completed : Bool) : s.characterArrives c own completed = s := by
  simp [State.characterArrives, hunting, mark]

/-- An armed receiver takes every character with its mark as a header. -/
theorem characterArrives_of_mark {s : State} (armed : s.lp.rx ≠ .disarmed) {c : Character} (mark : charMark c = true)
    (own completed : Bool) : s.characterArrives c own completed = s.headerArrives c own := by
  unfold State.characterArrives
  split
  · next disarmed => exact absurd disarmed armed
  · exact if_pos mark
  · exact if_pos mark

theorem characterArrives_of_body {s : State} {f : RxFrame} (inFrame : s.lp.rx = .inFrame f) {c : Character}
    (mark : charMark c = false) (own completed : Bool) :
    s.characterArrives c own completed = s.bodyArrives f c own completed := by
  simp [State.characterArrives, inFrame, mark]

theorem headerArrives_of_known {s : State} {c : Character} (good : charGood c = true) {n : Nat}
    (known : headerLength (charData c) = some n) (own : Bool) :
    s.headerArrives c own
      = s.setRx (.inFrame { bytes := [charData c], expected := n, begunDE := own, allDE := own }) := by
  simp only [State.headerArrives, good, if_true, known]

theorem headerArrives_of_bad {s : State} {c : Character} (bad : charGood c = false ∨ headerLength (charData c) = none)
    (own : Bool) : s.headerArrives c own = s.receiveError own := by
  unfold State.headerArrives
  split
  · next good =>
    obtain framing | unknown := bad
    · rw [framing] at good
      cases good
    · rw [unknown]
  · rfl

theorem bodyArrives_of_short {s : State} {f : RxFrame} {c : Character} (good : charGood c = true)
    (short : f.bytes.length + 1 < f.expected) (own completed : Bool) :
    s.bodyArrives f c own completed = s.setRx (.inFrame (rxAppend f (charData c) own)) := by
  rw [State.bodyArrives, if_pos good]
  exact if_neg (by simpa [rxAppend] using short)

theorem bodyArrives_of_last {s : State} {f : RxFrame} {c : Character} (good : charGood c = true)
    (last : f.expected ≤ f.bytes.length + 1) (own completed : Bool) :
    s.bodyArrives f c own completed = s.frameComplete (rxAppend f (charData c) own) own completed := by
  rw [State.bodyArrives, if_pos good]
  exact if_pos (by simpa [rxAppend] using last)

/-- A body character that is bad, or that ends a frame whose CRC differs, is a receive error. -/
theorem bodyArrives_of_bad {s : State} {f : RxFrame} {c : Character} (own completed : Bool)
    (bad : charGood c = false
      ∨ f.expected ≤ f.bytes.length + 1 ∧ frameChecks (f.bytes ++ [charData c]) = false) :
    s.bodyArrives f c own completed = s.receiveError (own || f.begunDE) := by
  cases good : charGood c with
  | false => rw [State.bodyArrives, if_neg (by simp [good])]
  | true =>
    obtain framing | ⟨last, differs⟩ := bad
    · rw [framing] at good
      cases good
    · rw [bodyArrives_of_last good last, State.frameComplete]
      exact if_neg (by simpa [rxAppend] using differs)

/-- What a receive error is in the statement of O24: a bad header, or a bad body character of a frame. -/
def ErrorArrives (s : State) (c : Character) (begunDE : Bool) : Prop :=
  s.lp.rx ≠ .disarmed ∧ charMark c = true ∧ (charGood c = false ∨ headerLength (charData c) = none) ∧ begunDE = false
    ∨ ∃ f, s.lp.rx = .inFrame f ∧ charMark c = false ∧ begunDE = f.begunDE
        ∧ (charGood c = false ∨ f.expected ≤ f.bytes.length + 1 ∧ frameChecks (f.bytes ++ [charData c]) = false)

theorem characterArrives_of_error {s : State} {c : Character} {begunDE : Bool} (error : ErrorArrives s c begunDE)
    (own completed : Bool) : s.characterArrives c own completed = s.receiveError (own || begunDE) := by
  obtain ⟨armed, mark, bad, rfl⟩ | ⟨f, inFrame, mark, rfl, bad⟩ := error
  · rw [characterArrives_of_mark armed mark, headerArrives_of_bad bad, Bool.or_false]
  · rw [characterArrives_of_body inFrame mark, bodyArrives_of_bad own completed bad]

/-! ### LOCAL at the last error (R50, R101, R155, R163) -/

theorem anyPending_stxLocal (x : Stx) : anyPending (stxLocal x) = false := by
  have cleared (slot : Slot) : isPending (slotCleared slot) = false := by cases slot <;> rfl
  simp [anyPending, stxLocal, cleared]

theorem scLocal_of_not_driving {s : State} (h : ¬(s.role = .axle ∧ s.isSource = true)) :
    (scLocal s).c = 0 ∧ (scLocal s).kNow = 0 := by
  rw [scLocal, if_neg h]
  exact ⟨rfl, rfl⟩

/-- What an error that is counted does, by the trouble count before it. -/
theorem receiveError_cases (s : State) :
    (192 ≤ s.lp.trouble →
        s.receiveError false = s.setLp { s.lp with rx := .hunting, recovery := 0 })
      ∧ (s.lp.trouble < 191 →
        s.receiveError false = s.setLp { s.lp with rx := .hunting, trouble := s.lp.trouble + 1 })
      ∧ (s.lp.trouble = 191 → s.stc.state ≠ .active →
        s.receiveError false = s.setLp { s.lp with rx := .hunting, trouble := 192, recovery := 0 })
      ∧ (s.lp.trouble = 191 → s.stc.state = .active →
        s.receiveError false
          = (s.setLp { s.lp with rx := .hunting, trouble := 192, recovery := 0 }).enterLocal) := by
  have speaks (last : s.lp.trouble = 191) : s.standing ≠ .silent := by
    rw [ne_eq, standing_silent_iff]
    omega
  refine ⟨receiveError_of_silent, receiveError_of_speaking, fun last other => ?_, fun last active => ?_⟩
  · rw [receiveError_of_last last]
    exact takeStanding_of_not_active (speaks last) other
  · rw [receiveError_of_last last]
    exact takeStanding_of_silenced (speaks last) ((standing_silent_iff _).mpr le_rfl) active

theorem receiveError_rx (s : State) (own : Bool) : (s.receiveError own).lp.rx = .hunting := by
  have counted (lp : Lp) : (lpReceiveError lp).rx = lp.rx := by
    unfold lpReceiveError
    split
    · rfl
    · obtain ⟨-, -, -, -, rx⟩ := lpRaise_kept 1 lp
      exact rx
  unfold State.receiveError
  simp only []
  split
  · rfl
  · exact Hearing.countLp_rx (s.setRx .hunting) (counted _)

/-- Settles O24: a disarmed receiver, mark 0 in HUNTING, a header, a body character, and a receive error by the count before. -/
theorem charactersReceived : Obligations.CharactersReceived := by
  refine ⟨fun s c op => ?_, fun s c off => exec_of_work_self (if_neg (by simp [off]))⟩
  intro own heard armed
  have kept : judged s = s.setLp (heard s.lp.rx) := rfl
  refine ⟨_, exec_of_work (work_characterReceived op c), fun disarmed => ?_, fun hunting mark => ?_,
    fun n arm mark good known => ?_, fun f inFrame mark good short => ?_, fun begunDE error => ?_⟩
  · rw [characterArrives_of_disarmed (s := judged s) disarmed, kept, disarmed]
    exact drivePins_of_eq rfl
  · rw [characterArrives_of_hunting (s := judged s) hunting mark, kept, hunting]
    exact drivePins_of_eq rfl
  · rw [characterArrives_of_mark (s := judged s) arm mark, headerArrives_of_known good known]
    exact drivePins_of_eq rfl
  · rw [characterArrives_of_body (s := judged s) inFrame mark, bodyArrives_of_short good short]
    exact drivePins_of_eq rfl
  · rw [characterArrives_of_error (s := judged s) error]
    obtain ⟨silent, speaking, elsewhere, active⟩ := receiveError_cases (judged s)
    refine ⟨receiveError_rx _ _, fun quiet => ?_, fun notOwn notBegun => ?_⟩
    · rw [(Bool.or_eq_true _ _).mpr quiet]
      exact drivePins_of_eq rfl
    · rw [show (underDE s || begunDE) = false from Bool.or_eq_false_iff.mpr ⟨notOwn, notBegun⟩]
      refine ⟨fun speaks => ?_, fun count => ?_, fun count => ?_, fun last other => ?_, fun last inActive => ?_⟩
      · rw [drivePins_lp]
        obtain below | last := Nat.lt_or_eq_of_le (Nat.le_of_lt_succ speaks)
        · rw [speaking below]
          rfl
        · by_cases inActive : s.stc.state = .active
          · rw [active last inActive, last]
            rfl
          · rw [elsewhere last inActive, last]
            rfl
      · rw [silent count]
        exact drivePins_of_eq rfl
      · rw [speaking count]
        exact drivePins_of_eq rfl
      · rw [elsewhere last other]
        exact drivePins_of_eq rfl
      · rw [active last inActive]
        refine ⟨rfl, rfl, rfl, anyPending_stxLocal _, rfl, rfl, rfl, rfl, rfl, rfl, rfl, fun other => ?_⟩
        exact scLocal_of_not_driving other

end Sys2Proof.Reception
end

section
/-! PROOFS. A valid frame (spec/04, R95 to R100): the statement handed on, the echo and the duplicate identity, and the recovery
from silence. -/

namespace Sys2Proof.ValidFrames

open Sys2Proof Sys2Proof.Machine Sys2Proof.Commands Sys2Proof.Paths Sys2Proof.Reception

/-! ### A statement handed on (R56, R65, R97, R173) -/

/-- A statement that starts the warn hold (R173). -/
def Warns (stmt : Statement) : Prop := ∃ a, stmt = .alert a ∧ (a.code = 1 ∨ a.code = 4 ∨ a.code = 6)

theorem startsWarnHold_iff (code : BitVec 8) : startsWarnHold code = true ↔ code = 1 ∨ code = 4 ∨ code = 6 := by
  simp [startsWarnHold, alertCode]
  tauto

theorem warnArrives_of_warns {s : State} {stmt : Statement} (warns : Warns stmt) :
    s.warnArrives stmt = s.setStc { s.stc with warnHold := s.cfg.shared.warnHold } := by
  obtain ⟨a, rfl, code⟩ := warns
  exact if_pos ((startsWarnHold_iff a.code).mpr code)

theorem warnArrives_of_not_warns {s : State} {stmt : Statement} (quiet : ¬Warns stmt) : s.warnArrives stmt = s := by
  cases stmt with
  | alert a => exact if_neg fun starts => quiet ⟨a, rfl, (startsWarnHold_iff a.code).mp starts⟩
  | standing f => rfl
  | demand v => rfl
  | leave => rfl

theorem warnArrives_kept_but (s : State) (stmt : Statement) :
    s.warnArrives stmt = { s with stc := { s.stc with warnHold := (s.warnArrives stmt).stc.warnHold } } := by
  by_cases warns : Warns stmt
  · rw [warnArrives_of_warns warns]
    rfl
  · rw [warnArrives_of_not_warns warns]

theorem handOn_pt (s : State) (bytes : List Byte) :
    (s.handOn bytes).pt
      = slotSet s.pt (headerIdent (byteAt bytes 0))
        (arriveAt s.cfg.profile (statementOf bytes) (byteAt bytes 1) (slotGet s.pt (headerIdent (byteAt bytes 0)))) := by
  simp [State.handOn, State.peerArrives]

theorem handOn_lp (s : State) (bytes : List Byte) :
    (s.handOn bytes).lp = { s.lp with origin := (s.handOn bytes).lp.origin } := by
  rw [State.handOn, warnArrives_lp]
  exact offer_lp _ (s.setPt _)

theorem handOn_stc (s : State) (bytes : List Byte) :
    (s.handOn bytes).stc = { s.stc with warnHold := (s.handOn bytes).stc.warnHold } := by
  rw [State.handOn, warnArrives_kept_but, peerArrives_stc]

/-- A statement handed on changes the table, STX, the warn hold and the access origin alone. -/
theorem handOn_kept_but (s : State) (bytes : List Byte) :
    s.handOn bytes = { s with
      pt := (s.handOn bytes).pt, stx := (s.handOn bytes).stx
      stc := { s.stc with warnHold := (s.handOn bytes).stc.warnHold }
      lp := { s.lp with origin := (s.handOn bytes).lp.origin } } :=
  state_ext (by simp) (handOn_stc s bytes) (by simp) (handOn_lp s bytes) rfl rfl (by simp) (by simp) (by simp) (by simp) (by simp)
    (by simp) (by simp) (by simp) (by simp)

theorem originFollows_handOn (s : State) (bytes : List Byte) : OriginFollows s (s.handOn bytes) := by
  have follows := originFollows_offer
    (mismatchAlert (headerIdent (byteAt bytes 0)) (slotGet s.pt (headerIdent (byteAt bytes 0)))
      (arriveAt s.cfg.profile (statementOf bytes) (byteAt bytes 1) (slotGet s.pt (headerIdent (byteAt bytes 0)))))
    (s.setPt (slotSet s.pt (headerIdent (byteAt bytes 0))
      (arriveAt s.cfg.profile (statementOf bytes) (byteAt bytes 1) (slotGet s.pt (headerIdent (byteAt bytes 0))))))
  refine originFollows_congr follows rfl rfl ?_ ?_ <;> simp [State.handOn, State.peerArrives]

theorem handOn_stx (s : State) (bytes : List Byte) :
    (s.handOn bytes).stx
      = (s.offer (mismatchAlert (headerIdent (byteAt bytes 0)) (slotGet s.pt (headerIdent (byteAt bytes 0)))
        (slotGet (s.handOn bytes).pt (headerIdent (byteAt bytes 0))))).stx := by
  rw [handOn_pt, slotGet_slotSet_self, State.handOn, warnArrives_stx]
  exact offer_stx_congr _ rfl rfl

theorem handOn_warnHold (s : State) (bytes : List Byte) :
    (Warns (statementOf bytes) → (s.handOn bytes).stc.warnHold = s.cfg.shared.warnHold)
      ∧ (¬Warns (statementOf bytes) → (s.handOn bytes).stc.warnHold = s.stc.warnHold) := by
  refine ⟨fun warns => ?_, fun quiet => ?_⟩
  · rw [State.handOn, warnArrives_of_warns warns, peerArrives_cfg]
    rfl
  · rw [State.handOn, warnArrives_of_not_warns quiet, peerArrives_stc]

theorem inMismatch_some (r : PeerRecord) : inMismatch (some r) = (r.state == .mismatch) := rfl

theorem mismatchAlert_some (id : Ident) (before : Option PeerRecord) (r : PeerRecord) :
    mismatchAlert id before (some r)
      = if inMismatch (some r) && !inMismatch before then some (mkAlert .profileMismatch id r.profile.toNat) else none := rfl

theorem mismatchAlert_of_entry {id : Ident} {before : Option PeerRecord} {r : PeerRecord} (mismatched : r.state = .mismatch)
    (other : inMismatch before = false) :
    mismatchAlert id before (some r) = some { code := 3, subject := BitVec.ofNat 8 id.val, detail := r.profile } := by
  simp [mismatchAlert_some, inMismatch_some, mismatched, other, mkAlert, alertCode]

theorem mismatchAlert_of_no_entry {id : Ident} {before after : Option PeerRecord}
    (stays : ∀ r, after = some r → r.state = .mismatch → inMismatch before = true) :
    mismatchAlert id before after = none := by
  cases after with
  | none => rfl
  | some r =>
    by_cases mismatched : r.state = .mismatch
    · simp [mismatchAlert_some, stays r rfl mismatched]
    · simp [mismatchAlert_some, inMismatch_some, mismatched]

/-- The statement of a frame arrives, from any earlier state that the count has left alike where the arrival looks. -/
theorem statementArrives_handOn {s u : State} (bytes : List Byte) (cfg : u.cfg = s.cfg) (pt : u.pt = s.pt)
    (stx : u.stx = s.stx) (warnHold : u.stc.warnHold = s.stc.warnHold) :
    StatementArrives s (u.handOn bytes).drivePins (headerIdent (byteAt bytes 0)) (byteAt bytes 1) (statementOf bytes) := by
  obtain ⟨warned, quiet⟩ := handOn_warnHold u bytes
  have state : (u.handOn bytes).stc.state = u.stc.state := by rw [handOn_stc]
  unfold StatementArrives
  intro warns
  rw [drivePins_pt, drivePins_stc, drivePins_stx, handOn_stx, handOn_pt, slotGet_slotSet_self, pt, cfg]
  refine ⟨rfl, fun j other => slotGet_slotSet_ne _ _ other, fun yes => (warned yes).trans (by rw [cfg]),
    fun no => (quiet no).trans warnHold, fun r arrived mismatched entered => ?_, fun none => ?_⟩
  · rw [arrived, mismatchAlert_of_entry mismatched entered]
    exact offer_stx_congr (some _) state.symm stx
  · rw [mismatchAlert_of_no_entry none]
    exact stx

/-! ### The last character of a valid frame -/

/-- The state that judges a complete frame: the receiver hunts, the field tail has done its work. -/
def framed (s : State) : State := s.setLp { s.lp with tail := .none, rx := .hunting }

theorem work_of_valid_frame {s : State} {f : RxFrame} {c : Character} (op : operating s.stc.state = true)
    (inFrame : s.lp.rx = .inFrame f) (mark : charMark c = false) (good : charGood c = true)
    (last : f.expected ≤ f.bytes.length + 1) (valid : frameChecks (f.bytes ++ [charData c]) = true) :
    work (.characterReceived c) s
      = (framed s).validFrame (rxAppend f (charData c) (underDE s)) (ownCompleted s c) := by
  rw [work_characterReceived op, characterArrives_of_body (s := judged s) inFrame mark, bodyArrives_of_last good last]
  exact if_pos valid

theorem validFrame_of_peer {s : State} {f : RxFrame} (peer : headerIdent (byteAt f.bytes 0) ≠ s.stc.id) (completed : Bool) :
    s.validFrame f completed = (s.countLp (lpValidFrame s.lp)).handOn f.bytes := if_neg peer

/-- A valid frame counts down without a change of standing while the station is not SILENT. -/
theorem countLp_of_speaking {s : State} (speaks : s.lp.trouble < 192) :
    s.countLp (lpValidFrame s.lp) = s.setLp { s.lp with trouble := s.lp.trouble - 1 } := by
  have frozen : ¬standingOf s.lp.trouble = .silent := by rw [standingOf_silent_iff]; omega
  have lowered : lpValidFrame s.lp = { s.lp with trouble := s.lp.trouble - 1 } :=
    (if_neg frozen).trans (if_neg frozen)
  rw [State.countLp, lowered]
  refine takeStanding_of_same ?_
  rw [standing_silent_iff, standing_silent_iff]
  show 192 ≤ s.lp.trouble ↔ 192 ≤ s.lp.trouble - 1
  omega

/-- Settles O25: the count, and the statement handed on. -/
theorem peerFrameIsHandedOn : Obligations.PeerFrameIsHandedOn := by
  intro s f c op inFrame mark good last speaks bytes id stmt valid peer
  let f' := rxAppend f (charData c) (underDE s)
  let u := (framed s).setLp { (framed s).lp with trouble := s.lp.trouble - 1 }
  have handed : work (.characterReceived c) s = u.handOn bytes := by
    rw [work_of_valid_frame op inFrame mark good last valid, validFrame_of_peer (s := framed s) (f := f') peer,
      countLp_of_speaking (s := framed s) speaks]
    rfl
  have follows : OriginFollows s (u.handOn bytes).drivePins := originFollows_handOn u bytes
  have arrives : StatementArrives s (u.handOn bytes).drivePins id (byteAt bytes 1) stmt :=
    statementArrives_handOn (s := s) (u := u) bytes rfl rfl rfl rfl
  exact ⟨_, exec_of_work handed, drivePins_of_eq (handOn_kept_but u bytes), follows, arrives⟩

/-! ### The own identity (R96, R164) -/

theorem validFrame_of_echo {s : State} {f : RxFrame} {completed : Bool} (own : headerIdent (byteAt f.bytes 0) = s.stc.id)
    (echo : f.allDE = true ∧ completed = true) : s.validFrame f completed = s :=
  (if_pos own).trans (if_pos echo)

theorem validFrame_of_duplicate {s : State} {f : RxFrame} {completed : Bool}
    (own : headerIdent (byteAt f.bytes 0) = s.stc.id) (other : ¬(f.allDE = true ∧ completed = true)) :
    s.validFrame f completed = (s.countLp (lpValidFrame s.lp)).enterFault .dupId :=
  (if_pos own).trans (if_neg other)

theorem driveOutput_of_released {s : State} (released : s.sc.c = 0) : driveOutput s = 0 := by
  unfold driveOutput
  split
  · rfl
  · exact if_pos released

theorem exsOutput_of_released {s : State} (released : s.sc.kNow = 0) : exsOutput s = 0 := by
  unfold exsOutput
  split
  · exact released
  · rfl

/-- The pins of a duplicate identity (R165, R172, R174). -/
theorem outputsOf_enterFault_dupId (s : State) :
    (outputsOf (s.enterFault .dupId)).fault = true ∧ (outputsOf (s.enterFault .dupId)).warn = true
      ∧ (outputsOf (s.enterFault .dupId)).de = false ∧ (outputsOf (s.enterFault .dupId)).drive = 0
      ∧ (outputsOf (s.enterFault .dupId)).exs = 0 := by
  refine ⟨rfl, rfl, rfl, ?_, ?_⟩
  · exact congrArg (BitVec.ofNat 10) (driveOutput_of_released (s := s.enterFault .dupId) rfl)
  · exact congrArg (BitVec.ofNat 3) (exsOutput_of_released (s := s.enterFault .dupId) rfl)

/-- A count leaves the sequence counter and the sink state alone. -/
theorem countLp_seq_degraded (s : State) (lp : Lp) :
    (s.countLp lp).stx.seq = s.stx.seq ∧ (s.countLp lp).sc.degraded = s.sc.degraded :=
  countLp_keeps (P := fun u => u.stx.seq = s.stx.seq ∧ u.sc.degraded = s.sc.degraded) ⟨rfl, rfl⟩
    (fun _ _ _ => ⟨rfl, (DemandAndCommand.scLocal_sink_state (s.setLp lp)).1⟩) fun _ _ _ => ⟨rfl, rfl⟩

/-- Settles O26: the echo, and the duplicate identity with FAULT's values. -/
theorem echoAndDuplicateIdentity : Obligations.EchoAndDuplicateIdentity := by
  intro s f c op inFrame mark good last valid own echo
  let f' := rxAppend f (charData c) (underDE s)
  have echo_iff : f'.allDE = true ∧ ownCompleted s c = true ↔ echo := by
    simp [f', rxAppend, echo, and_assoc]
  refine ⟨_, exec_of_work (work_of_valid_frame op inFrame mark good last valid), fun yes => ?_, fun no => ?_⟩
  · rw [validFrame_of_echo (s := framed s) (f := f') own (echo_iff.mpr yes)]
    exact drivePins_of_eq rfl
  · rw [validFrame_of_duplicate (s := framed s) (f := f') own (mt echo_iff.mp no)]
    obtain ⟨seq, degraded⟩ := countLp_seq_degraded (framed s) (lpValidFrame (framed s).lp)
    obtain ⟨fault, warn, de, drive, exs⟩ := outputsOf_enterFault_dupId ((framed s).countLp (lpValidFrame (framed s).lp))
    refine ⟨rfl, rfl, rfl, rfl, slotGet_empty, rfl, rfl, rfl, rfl, seq, rfl, rfl, rfl, rfl, rfl, rfl, rfl, rfl, degraded,
      ?_, ?_, ?_, ?_, fault, warn, de, drive, exs⟩ <;> simp [framed]

end Sys2Proof.ValidFrames
end

section
/-! PROOFS. The recovery from silence (spec/04, R100; spec/08, R162). -/

namespace Sys2Proof.Recovery

open Sys2Proof Sys2Proof.Machine Sys2Proof.Commands Sys2Proof.Paths Sys2Proof.Reception Sys2Proof.ValidFrames

/-! ### An alert outside ACTIVE moves nothing (R86) -/

theorem fillUrgent_of_not_active {s : State} (other : s.stc.state ≠ .active) : s.fillUrgent = s := by
  unfold State.fillUrgent
  split
  · next active _ _ => exact absurd active other
  · rfl

theorem offer_of_not_active (a : Option Alert) {s : State} (other : s.stc.state ≠ .active) :
    (s.offer a).lp = s.lp ∧ (s.offer a).stx.urgent = s.stx.urgent := by
  cases a with
  | none => exact ⟨rfl, rfl⟩
  | some a =>
    rw [offer_some, State.offerAlert]
    split
    · have still (x : Stx) : (s.setStx x).fillUrgent = s.setStx x := fillUrgent_of_not_active other
      rw [still]
      exact ⟨rfl, rfl⟩
    · exact ⟨rfl, rfl⟩

theorem handOn_of_not_active {s : State} (other : s.stc.state ≠ .active) (bytes : List Byte) :
    (s.handOn bytes).lp.origin = s.lp.origin ∧ (s.handOn bytes).stx.urgent = s.stx.urgent := by
  have kept (t : PeerTable) (a : Option Alert) : ((s.setPt t).offer a).lp = s.lp :=
    (offer_of_not_active a (s := s.setPt t) other).1
  rw [handOn_stx, (offer_of_not_active _ other).2, State.handOn, warnArrives_lp, State.peerArrives, kept]
  exact ⟨rfl, rfl⟩

theorem handOn_kept_but_lp (s : State) (bytes : List Byte) :
    s.handOn bytes = { s with
      pt := (s.handOn bytes).pt, stx := (s.handOn bytes).stx, lp := (s.handOn bytes).lp
      stc := { s.stc with warnHold := (s.handOn bytes).stc.warnHold } } :=
  (handOn_kept_but s bytes).trans (by rw [← handOn_lp])

/-! ### The count of a valid frame while SILENT -/

/-- The station that speaks again: both counts at 0, and access to resume at the next line-free point. -/
def speaking (s : State) : State := s.setLp { s.lp with trouble := 0, recovery := 0, origin := .unset }

theorem countLp_of_silent {s : State} (silent : 192 ≤ s.lp.trouble) :
    (s.lp.recovery < 127 → s.countLp (lpValidFrame s.lp) = s.setLp { s.lp with recovery := s.lp.recovery + 1 })
      ∧ (127 ≤ s.lp.recovery → s.stc.state = .localOnly → s.countLp (lpValidFrame s.lp) = (speaking s).enterListen)
      ∧ (127 ≤ s.lp.recovery → s.stc.state ≠ .localOnly → s.countLp (lpValidFrame s.lp) = speaking s) := by
  have now : standingOf s.lp.trouble = .silent := (standingOf_silent_iff _).mpr silent
  have resumed (enough : 127 ≤ s.lp.recovery) : s.countLp (lpValidFrame s.lp) = (speaking s).takeStanding s.standing := by
    rw [State.countLp, lpValidFrame, if_pos now, if_pos (Nat.succ_le_succ enough)]
    rfl
  refine ⟨fun few => ?_, fun enough localOnly => ?_, fun enough other => ?_⟩
  · rw [State.countLp, lpValidFrame, if_pos now, if_neg (Nat.not_le.mpr (Nat.succ_lt_succ few))]
    exact takeStanding_of_same Iff.rfl
  · rw [resumed enough]
    exact takeStanding_of_recovered now (fun still => nomatch still) localOnly
  · rw [resumed enough]
    exact takeStanding_of_not_local now other

/-- The count changes neither the table, nor STX, nor the warn hold, and brings no station to ACTIVE. -/
theorem countLp_of_silent_kept {s : State} (silent : 192 ≤ s.lp.trouble) :
    let u := s.countLp (lpValidFrame s.lp)
    u.stx = s.stx ∧ u.stc.warnHold = s.stc.warnHold ∧ (s.stc.state ≠ .active → u.stc.state ≠ .active) := by
  intro u
  obtain ⟨few, inLocal, elsewhere⟩ := countLp_of_silent silent
  by_cases enough : 127 ≤ s.lp.recovery
  · by_cases localOnly : s.stc.state = .localOnly
    · simp only [u, inLocal enough localOnly]
      exact ⟨rfl, rfl, fun _ => by simp⟩
    · simp only [u, elsewhere enough localOnly]
      exact ⟨rfl, rfl, id⟩
  · simp only [u, few (Nat.not_le.mp enough)]
    exact ⟨rfl, rfl, id⟩

/-- Settles O27: the counts short of recovery, and the frame that recovers, from LOCAL and from elsewhere. -/
theorem recoveryFromSilence : Obligations.RecoveryFromSilence := by
  intro s f c op inFrame mark good last silent bytes id valid peer
  let f' := rxAppend f (charData c) (underDE s)
  let u := (framed s).countLp (lpValidFrame (framed s).lp)
  have handed : work (.characterReceived c) s = u.handOn bytes := by
    rw [work_of_valid_frame op inFrame mark good last valid, validFrame_of_peer (s := framed s) (f := f') peer]
    rfl
  obtain ⟨few, inLocal, elsewhere⟩ := countLp_of_silent (s := framed s) silent
  obtain ⟨stx, warnHold, notActive⟩ := countLp_of_silent_kept (s := framed s) silent
  have arrives : StatementArrives s (u.handOn bytes).drivePins id (byteAt bytes 1) (statementOf bytes) :=
    statementArrives_handOn (s := s) (u := u) bytes (by simp [u, framed]) (by simp [u, framed]) stx warnHold
  refine ⟨_, exec_of_work handed, arrives, fun other => ?_, fun short => ?_, fun enough => ?_⟩
  · rw [drivePins_stx, (handOn_of_not_active (notActive other) bytes).2]
    exact congrArg Stx.urgent stx
  · have counted : u = (framed s).setLp { (framed s).lp with recovery := s.lp.recovery + 1 } := few short
    rw [counted]
    exact ⟨drivePins_of_eq (handOn_kept_but _ bytes), originFollows_handOn _ bytes⟩
  · have lp : u.lp = (speaking (framed s)).lp := by
      by_cases localOnly : s.stc.state = .localOnly
      · exact (congrArg State.lp (inLocal enough localOnly)).trans (enterListen_lp _)
      · exact congrArg State.lp (elsewhere enough localOnly)
    have handedLp : (u.handOn bytes).lp = { (speaking (framed s)).lp with origin := (u.handOn bytes).lp.origin } := by
      rw [handOn_lp, lp]
    refine ⟨?_, handedLp, fun other => ?_, fun localOnly => ?_, fun other => ?_⟩
    · rw [State.standing, drivePins_lp, handedLp]
      rfl
    · rw [drivePins_lp, (handOn_of_not_active (notActive other) bytes).1, lp]
      rfl
    · have recovered : u = (speaking (framed s)).enterListen := inLocal enough localOnly
      rw [recovered]
      exact drivePins_of_eq (handOn_kept_but_lp _ bytes)
    · have counted : u = speaking (framed s) := elsewhere enough other
      rw [counted]
      exact drivePins_of_eq (handOn_kept_but_lp _ bytes)

end Sys2Proof.Recovery
end

section
/-! PROOFS. Frames: what is framed reads back (spec/04, R77, R78), and a whole frame sent character by character is heard (R94 to
R97). -/

namespace Sys2Proof.WholeFrames

open Sys2Proof Sys2Proof.Machine Sys2Proof.Commands Sys2Proof.Reception Sys2Proof.ValidFrames

/-! ### The header and the flags (R77) -/

theorem headerIdent_headerByte (id : Ident) (kind : BitVec 3) : headerIdent (headerByte id kind) = id := by
  revert id kind
  decide

theorem headerKind_headerByte (id : Ident) (kind : BitVec 3) : headerKind (headerByte id kind) = kind.toNat := by
  revert id kind
  decide

theorem headerByte_low_bits (id : Ident) (kind : BitVec 3) : (headerByte id kind).extractLsb' 0 2 = 0#2 := by
  revert id kind
  decide

/-- The length a statement's kind fixes. -/
theorem headerLength_headerByte (id : Ident) (stmt : Statement) :
    headerLength (headerByte id (kindOf stmt)) = some ((payloadOf stmt).length + 4) := by
  rw [headerLength, if_neg (by simp [headerByte_low_bits]), headerKind_headerByte]
  cases stmt <;> rfl

theorem flagsByte_reads (role : BitVec 2) (drive guard speedFault : Bool) :
    let b : Byte := 0#3 ++ BitVec.ofBool speedFault ++ BitVec.ofBool guard ++ BitVec.ofBool drive ++ role
    b.extractLsb' 0 2 = role ∧ b.getLsbD 2 = drive ∧ b.getLsbD 3 = guard ∧ b.getLsbD 4 = speedFault := by
  revert role drive guard speedFault
  decide

theorem steps_read (n k : BitVec 4) : (n ++ k).extractLsb' 4 4 = n ∧ (n ++ k).extractLsb' 0 4 = k := by
  revert n k
  decide

/-! ### A frame reads back (R77, R78) -/

theorem length_frameBody (id : Ident) (seq : BitVec 8) (stmt : Statement) :
    (frameBody id seq stmt).length = (payloadOf stmt).length + 2 := rfl

theorem length_frameOf (id : Ident) (seq : BitVec 8) (stmt : Statement) :
    (frameOf id seq stmt).length = (payloadOf stmt).length + 4 := by
  simp [frameOf, length_frameBody]

/-- The last two bytes of a list that ends in a two-byte field are the field. -/
theorem halfAt_append_hiLo (xs : List Byte) (h : Half) : halfAt (xs ++ hiLo h) xs.length = h := by
  simp [halfAt, byteAt, hiLo]

theorem frameChecks_frameOf (id : Ident) (seq : BitVec 8) (stmt : Statement) :
    frameChecks (frameOf id seq stmt) = true := by
  have body : (frameOf id seq stmt).length - 2 = (frameBody id seq stmt).length := by
    rw [length_frameOf, length_frameBody]
    omega
  rw [frameChecks, body, frameOf, List.take_left' rfl, halfAt_append_hiLo]
  exact beq_self_eq_true _

theorem byteAt_zero_frameOf (id : Ident) (seq : BitVec 8) (stmt : Statement) :
    byteAt (frameOf id seq stmt) 0 = headerByte id (kindOf stmt) := rfl

/-- The fields of a STANDING, one by one, from their places in its frame. -/
theorem standingFieldsOf_frameOf (id : Ident) (seq : BitVec 8) (f : StandingFields) :
    standingFieldsOf (frameOf id seq (.standing f)) = f := by
  have half (h : Half) : ofHiLo (h.extractLsb' 8 8) (h.extractLsb' 0 8) = h := ofHiLo_extract h
  obtain ⟨role, drive, guard, speedFault⟩ := flagsByte_reads f.role f.drive f.guard f.speedFault
  obtain ⟨n, k⟩ := steps_read f.n f.k
  calc standingFieldsOf (frameOf id seq (.standing f))
      = { role := (flagsByte f).extractLsb' 0 2, drive := (flagsByte f).getLsbD 2, guard := (flagsByte f).getLsbD 3
          speedFault := (flagsByte f).getLsbD 4
          profile := ofHiLo (f.profile.extractLsb' 8 8) (f.profile.extractLsb' 0 8)
          capacity := ofHiLo (f.capacity.extractLsb' 8 8) (f.capacity.extractLsb' 0 8)
          take := ofHiLo (f.take.extractLsb' 8 8) (f.take.extractLsb' 0 8)
          limit := ofHiLo (f.limit.extractLsb' 8 8) (f.limit.extractLsb' 0 8)
          wheel := ofHiLo (f.wheel.extractLsb' 8 8) (f.wheel.extractLsb' 0 8)
          weight := f.weight, n := (f.n ++ f.k).extractLsb' 4 4, k := (f.n ++ f.k).extractLsb' 0 4 } := rfl
    _ = f := by simp only [half, n, k, flagsByte, role, drive, guard, speedFault]

theorem statementOf_frameOf (id : Ident) (seq : BitVec 8) (stmt : Statement) :
    statementOf (frameOf id seq stmt) = stmt := by
  rw [statementOf, byteAt_zero_frameOf, headerKind_headerByte]
  cases stmt with
  | standing f => exact congrArg Statement.standing (standingFieldsOf_frameOf id seq f)
  | demand v => exact congrArg Statement.demand (ofHiLo_extract v)
  | alert a => exact congrArg (fun d => Statement.alert { a with detail := d }) (ofHiLo_extract a.detail)
  | leave => rfl

/-- Settles O28: header, sequence, length, CRC and fields. -/
theorem framesReadBack : Obligations.FramesReadBack := by
  intro id seq stmt bytes
  refine ⟨headerIdent_headerByte id _, rfl, ?_, frameChecks_frameOf id seq stmt, statementOf_frameOf id seq stmt⟩
  exact (headerLength_headerByte id stmt).trans (congrArg some (length_frameOf id seq stmt).symm)

/-! ### A frame heard character by character (R94 to R97) -/

theorem runCommands_cons {c : Instr} {rest : List Instr} {s t : State} (next : exec c s = .next t) :
    runCommands (c :: rest) s = runCommands rest t := by
  rw [runCommands, next]

/-- What hearing the rest of a peer's frame does to a station (R97). -/
def Heard (s t : State) (id : Ident) (seq : BitVec 8) (stmt : Statement) : Prop :=
  slotGet t.pt id = arriveAt s.cfg.profile stmt seq (slotGet s.pt id)
    ∧ (∀ j, j ≠ id → slotGet t.pt j = slotGet s.pt j)
    ∧ t.lp.rx = .hunting ∧ (s.lp.trouble < 192 → t.lp.trouble = s.lp.trouble - 1)

/-- A character of a frame's body. -/
def bodyChar (b : Byte) : Instr := .characterReceived (charOf false b)

/-- A body character before the last is appended. -/
theorem exec_bodyChar_of_short {s : State} {f : RxFrame} (op : operating s.stc.state = true) (inFrame : s.lp.rx = .inFrame f)
    {b : Byte} (short : f.bytes.length + 1 < f.expected) :
    exec (bodyChar b) s
      = .next ((judged s).setRx (.inFrame (rxAppend f b (underDE s)))).drivePins := by
  refine exec_of_work ?_
  rw [bodyChar, work_characterReceived op, characterArrives_of_body (s := judged s) inFrame (charMark_charOf _ _),
    bodyArrives_of_short (charGood_charOf _ _) short, charData_charOf]

/-- The last body character hands the statement of the frame on. -/
theorem exec_bodyChar_of_last {s : State} {f : RxFrame} (op : operating s.stc.state = true) (inFrame : s.lp.rx = .inFrame f)
    {id : Ident} {seq : BitVec 8} {stmt : Statement} {b : Byte} (frame : f.bytes ++ [b] = frameOf id seq stmt)
    (last : f.expected = (frameOf id seq stmt).length) (peer : id ≠ s.stc.id) :
    ∃ t, exec (bodyChar b) s = .next t ∧ Heard s t id seq stmt := by
  let f' := rxAppend f b (underDE s)
  let u := (framed s).countLp (lpValidFrame (framed s).lp)
  have header : headerIdent (byteAt (frameOf id seq stmt) 0) = id := headerIdent_headerByte id _
  have judge : work (bodyChar b) s = (framed s).validFrame f' (ownCompleted s (charOf false b)) := by
    have judge' := work_of_valid_frame (c := charOf false b) op inFrame (charMark_charOf _ _) (charGood_charOf _ _)
      (by rw [last, ← frame, List.length_append]; rfl) (by rw [charData_charOf, frame]; exact frameChecks_frameOf id seq stmt)
    rw [charData_charOf] at judge'
    exact judge'
  have bytes : f'.bytes = frameOf id seq stmt := frame
  have handed : work (bodyChar b) s = u.handOn (frameOf id seq stmt) := by
    rw [judge, validFrame_of_peer (s := framed s) (f := f') (by rw [bytes, header]; exact peer), bytes]
  have table : (u.handOn (frameOf id seq stmt)).pt
      = slotSet s.pt id (arriveAt s.cfg.profile stmt seq (slotGet s.pt id)) := by
    have seq_eq : byteAt (frameOf id seq stmt) 1 = seq := rfl
    rw [handOn_pt, header, statementOf_frameOf, seq_eq]
    simp [u, framed]
  have hunts : u.lp.rx = .hunting := Hearing.countLp_rx (framed s) (Frames.lpValidFrame_kept _).2.2.2
  refine ⟨_, exec_of_work handed, ?_, fun j other => ?_, ?_, fun speaks => ?_⟩
  · rw [drivePins_pt, table, slotGet_slotSet_self]
  · rw [drivePins_pt, table, slotGet_slotSet_ne _ _ other]
  · rw [drivePins_lp, handOn_lp]
    exact hunts
  · have counted : u = (framed s).setLp { (framed s).lp with trouble := s.lp.trouble - 1 } :=
      countLp_of_speaking (s := framed s) speaks
    rw [drivePins_lp, handOn_lp, counted]
    rfl

/-- From any point inside a frame, the rest of it is heard. -/
theorem heard_of_rest {id : Ident} {seq : BitVec 8} {stmt : Statement} (rest : List Byte) (s : State) (f : RxFrame)
    (op : operating s.stc.state = true) (inFrame : s.lp.rx = .inFrame f) (frame : f.bytes ++ rest = frameOf id seq stmt)
    (more : rest ≠ []) (length : f.expected = (frameOf id seq stmt).length) (peer : id ≠ s.stc.id) :
    ∃ t, runCommands (rest.map bodyChar) s = some t ∧ Heard s t id seq stmt := by
  induction rest generalizing s f with
  | nil => exact absurd rfl more
  | cons b rest ih =>
    cases rest with
    | nil =>
      obtain ⟨t, next, heard⟩ := exec_bodyChar_of_last op inFrame frame length peer
      exact ⟨t, runCommands_cons next, heard⟩
    | cons b' rest' =>
      have short : f.bytes.length + 1 < f.expected := by
        rw [length, ← frame]
        simp
      obtain ⟨t, run, heard⟩ := ih ((judged s).setRx (.inFrame (rxAppend f b (underDE s)))).drivePins
        (rxAppend f b (underDE s)) op rfl (by rw [← frame]; simp [rxAppend]) (by simp) length peer
      exact ⟨t, (runCommands_cons (exec_bodyChar_of_short op inFrame short)).trans run, heard⟩

/-- Settles O29: the header begins the frame, and the rest of it is heard. -/
theorem wholeFrameIsHeard : Obligations.WholeFrameIsHeard := by
  intro s id seq stmt op hunting _ _ peer bytes characters
  let f : RxFrame := { bytes := [byteAt bytes 0], expected := bytes.length, begunDE := underDE s, allDE := underDE s }
  have known : headerLength (charData (charOf true (byteAt bytes 0))) = some bytes.length := by
    rw [charData_charOf]
    exact (framesReadBack id seq stmt).2.2.1
  have begun : exec (.characterReceived (charOf true (byteAt bytes 0))) s
      = .next ((judged s).setRx (.inFrame f)).drivePins := by
    refine exec_of_work ?_
    have armed : (judged s).lp.rx ≠ .disarmed := fun disarmed => by cases hunting.symm.trans disarmed
    rw [work_characterReceived op, characterArrives_of_mark armed (charMark_charOf _ _),
      headerArrives_of_known (charGood_charOf _ _) known, charData_charOf]
  have more : bytes.tail ≠ [] := by
    refine List.ne_nil_of_length_pos ?_
    rw [List.length_tail, length_frameOf]
    omega
  obtain ⟨t, run, heard⟩ := heard_of_rest bytes.tail ((judged s).setRx (.inFrame f)).drivePins f op rfl rfl more rfl peer
  refine ⟨t, ?_, heard⟩
  have split_at : characters.map Instr.characterReceived
      = .characterReceived (charOf true (byteAt bytes 0)) :: bytes.tail.map bodyChar := by
    simp only [characters, List.map_cons, List.map_map]
    rfl
  rw [split_at, runCommands_cons begun]
  exact run

end Sys2Proof.WholeFrames
end

section
/-! PROOFS. What the station says (spec/04, 4.3 and 4.4): statements formed into their slots, the alert queue, and access. -/

namespace Sys2Proof.Saying

open Sys2Proof Sys2Proof.Machine Sys2Proof.Commands

/-! ### Statements formed (R79, R80, R82, R88) -/

/-- The STANDING of the owners' values, field by field. -/
theorem formStanding_eq (s : State) :
    let axle : Bool := s.role == .axle
    let exhaust : Bool := s.role == .exhaust
    formStanding s
      = { role := match s.role with | .exhaust => 0 | .retarder => 1 | .axle => 2
          drive := axle && s.cfg.loc.driveFlag, guard := s.cu.guarded, speedFault := axle && s.am.faultFlag
          profile := s.cfg.profile, capacity := BitVec.ofNat 16 s.cu.capacity, take := BitVec.ofNat 16 s.sc.take
          limit := BitVec.ofNat 16 (if axle then s.am.limit else 0)
          wheel := BitVec.ofNat 16 (if axle then s.am.w else 0)
          weight := BitVec.ofNat 8 (if axle then s.cfg.loc.weight else 0)
          n := BitVec.ofNat 4 (if exhaust then s.cfg.loc.n else 0)
          k := BitVec.ofNat 4 (if exhaust then s.sc.kNow else 0) } := by
  have drive : cfgDrive s.cfg = (s.role == .axle && s.cfg.loc.driveFlag) := rfl
  cases role : s.role <;> simp [formStanding, drive, role, roleCodeOf, forAxle, forExhaust]

/-- A formed statement changes its slot and the access origin alone. -/
theorem putStx_kept_but (s : State) (x : Stx) :
    s.putStx x = { s with stx := x, lp := { s.lp with origin := (s.putStx x).lp.origin } } := by
  rw [putStx_eq]
  rfl

theorem putStx_origin (s : State) (x : Stx) :
    (s.putStx x).lp.origin
      = if s.lp.line = .free ∧ s.lp.tx = none ∧ anyPending s.stx = false ∧ anyPending x = true then .slotPending
        else s.lp.origin := by
  rw [putStx_eq]
  rfl

/-- The origin is set where a slot becomes PENDING on a FREE line with nothing PENDING and nothing being sent (R88). -/
theorem putStx_origin_of_first {s : State} {x : Stx} (free : s.lp.line = .free) (idle : s.lp.tx = none)
    (none : anyPending s.stx = false) (some : anyPending x = true) : (s.putStx x).lp.origin = .slotPending :=
  (putStx_origin s x).trans (if_pos ⟨free, idle, none, some⟩)

theorem putStx_origin_of_busy {s : State} (x : Stx)
    (other : s.lp.line = .busy ∨ s.lp.tx ≠ none ∨ anyPending s.stx = true) : (s.putStx x).lp.origin = s.lp.origin := by
  refine (putStx_origin s x).trans (if_neg ?_)
  rintro ⟨free, idle, none, -⟩
  obtain busy | sending | pending := other
  · cases busy.symm.trans free
  · exact sending idle
  · cases pending.symm.trans none

/-- Settles O30: the STANDING, the DEMAND, and where neither is formed. -/
theorem formedStatementsEnterTheirSlots : Obligations.FormedStatementsEnterTheirSlots := by
  unfold Obligations.FormedStatementsEnterTheirSlots
  intro entered
  have entered_eq (stmt : Statement) (slot : Slot) : slotEnter stmt slot = entered stmt slot := by cases slot <;> rfl
  refine ⟨fun s active => ?_, fun s active source => ?_, fun s other => exec_of_work_self (if_neg other),
    fun s other => exec_of_work_self (if_neg ?_)⟩
  · intro axle exhaust f
    let x : Stx := { s.stx with standing := entered (.standing f) s.stx.standing }
    have formed : work .standingExpiry s = s.putStx x := by
      have entering : work .standingExpiry s = s.enterSlot .standing (.standing (formStanding s)) := if_pos active
      rw [entering, State.enterSlot, entered_eq, formStanding_eq]
      rfl
    refine ⟨_, exec_of_work formed, drivePins_of_eq (putStx_kept_but s x), fun free idle none empty => ?_,
      fun other => putStx_origin_of_busy x other⟩
    refine putStx_origin_of_first free idle none ?_
    simp [x, anyPending, empty, entered, isPending]
  · let x : Stx := { s.stx with demand := entered (.demand (BitVec.ofNat 16 s.du.own)) s.stx.demand }
    have formed : work .demandExpiry s = s.putStx x := by
      have entering : work .demandExpiry s = s.enterSlot .demand (.demand (BitVec.ofNat 16 s.du.own)) :=
        if_pos ⟨active, source⟩
      rw [entering, State.enterSlot, entered_eq]
      rfl
    refine ⟨_, exec_of_work formed, drivePins_of_eq (putStx_kept_but s x), fun free idle none empty => ?_,
      fun other => putStx_origin_of_busy x other⟩
    refine putStx_origin_of_first free idle none ?_
    simp [x, anyPending, empty, entered, isPending]
  · rintro ⟨active, source⟩
    obtain notActive | notSource := other
    · exact notActive active
    · cases source.symm.trans notSource

/-! ### The alert queue (R84, R86) -/

/-- An alert with the code and subject of a queued one takes its place, whole. -/
theorem enqueue_replaces {a b : Alert} (same : b.code = a.code ∧ b.subject = a.subject) :
    (if sameAlert a b = true then { b with detail := a.detail } else b) = a := by
  have matched : sameAlert a b = true := (Alerts.sameAlert_iff a b).mpr (Prod.ext same.1 same.2)
  rw [if_pos matched, same.1, same.2]

theorem alertKey_eq_iff (a b : Alert) : alertKey b = alertKey a ↔ b.code = a.code ∧ b.subject = a.subject := Prod.mk.injEq .. ▸ Iff.rfl

theorem offerAlert_of_waiting {s : State} {a : Alert}
    (waits : s.stc.state = .listen ∨ s.stc.state = .active ∧ s.stx.urgent ≠ .empty) :
    s.offerAlert a = s.setStx { s.stx with queue := enqueue a s.stx.queue } := by
  have taken : alertsTaken s.stc.state = true := by
    obtain listen | ⟨active, -⟩ := waits
    · rw [listen]; rfl
    · rw [active]; rfl
  rw [State.offerAlert, if_pos taken]
  obtain still | ⟨active, empty, -⟩ := fillUrgent_cases (s.setStx { s.stx with queue := enqueue a s.stx.queue })
  · exact still
  · obtain listen | ⟨-, held⟩ := waits
    · cases listen.symm.trans active
    · exact absurd empty held

theorem fillUrgent_of_empty {s : State} {a : Alert} {rest : List Alert} (active : s.stc.state = .active)
    (empty : s.stx.urgent = .empty) (queue : s.stx.queue = a :: rest) :
    s.fillUrgent = s.putStx { s.stx with urgent := .pending (newlyHeld (.alert a)), queue := rest } := by
  simp only [State.fillUrgent, active, empty, queue]

theorem anyPending_of_urgent {x : Stx} {h : Held} (urgent : x.urgent = .pending h) : anyPending x = true := by
  simp [anyPending, urgent, isPending]

/-- Settles O36: the three ways of the queue, and the offer by station state and urgent slot. -/
theorem alertQueueTakesAlerts : Obligations.AlertQueueTakesAlerts := by
  refine ⟨fun a q => ?_, fun s a => ⟨fun notListen notActive => ?_, fun waits => offerAlert_of_waiting waits,
    fun b rest active empty queue => ?_, rfl, originFollows_offer (some a) s⟩⟩
  · intro same
    have known : (∃ b ∈ q, same b) ↔ ∃ b ∈ q, alertKey b = alertKey a := by simp only [alertKey_eq_iff, same]
    rw [known]
    refine ⟨fun mem => ?_, Alerts.enqueue_of_room, Alerts.enqueue_of_full⟩
    rw [Alerts.enqueue_of_mem mem]
    refine ⟨List.length_map _, fun k b at_k => ?_⟩
    rw [List.getElem?_map, at_k, Option.map_some]
    refine ⟨fun yes => congrArg some (enqueue_replaces yes), fun no => congrArg some (if_neg fun matched => no ?_)⟩
    exact (alertKey_eq_iff a b).mp ((Alerts.sameAlert_iff a b).mp matched)
  · refine offerAlert_discarded a ?_
    cases state : s.stc.state <;> first | rfl | exact absurd state notListen | exact absurd state notActive
  · have taken : alertsTaken s.stc.state = true := by rw [active]; rfl
    rw [State.offerAlert, if_pos taken,
      fillUrgent_of_empty (s := s.setStx { s.stx with queue := enqueue a s.stx.queue }) active empty queue, putStx_eq]
    have pending : anyPending { s.stx with urgent := .pending (newlyHeld (.alert b)), queue := rest } = true :=
      anyPending_of_urgent rfl
    simp only [setStx_stx, setStx_lp, pending, and_true]
    rfl

/-! ### Access (R83, R88, R90, R93) -/

theorem mostUrgent_of_first {x : Stx} {cls : SlotClass} {h : Held} (pending : slotOf x cls = .pending h)
    (first : ∀ d, classNumber d < classNumber cls → isPending (slotOf x d) = false) : mostUrgent x = some (cls, h) := by
  have passed (d : SlotClass) (lt : classNumber d < classNumber cls) (g : Held) : slotOf x d ≠ .pending g := by
    intro held
    have free := first d lt
    rw [held] at free
    cases free
  cases cls with
  | urgent =>
    simp only [slotOf] at pending
    simp only [mostUrgent, pending]
  | demand =>
    have urgent := passed .urgent (by decide)
    simp only [slotOf] at pending urgent
    simp only [mostUrgent, pending]
  | standing =>
    have urgent := passed .urgent (by decide)
    have demand := passed .demand (by decide)
    simp only [slotOf] at pending urgent demand
    simp only [mostUrgent, pending]

theorem restraint_of_speaking {s : State} (speaks : s.lp.trouble < 192) :
    restraint s.standing = if 96 ≤ s.lp.trouble then 24 else 0 := by
  rw [State.standing, standingOf]
  by_cases few : s.lp.trouble < 96
  · rw [if_pos few, if_neg (Nat.not_le.mpr few)]
    rfl
  · rw [if_neg few, if_pos speaks, if_pos (Nat.not_lt.mp few)]
    rfl

theorem accessWait_of_speaking {s : State} (speaks : s.lp.trouble < 192) (cls : SlotClass) :
    accessWait s cls = (classNumber cls * 8 + s.stc.id.val + if 96 ≤ s.lp.trouble then 24 else 0) * 3 := by
  rw [accessWait, restraint_of_speaking speaks]

/-- Settles O32: the wait that has run out, and what holds a frame back. -/
theorem accessWaitEndStartsTheFrame : Obligations.AccessWaitEndStartsTheFrame := by
  intro s cls h elapsed pending first wait n
  have most : mostUrgent s.stx = some (cls, h) := mostUrgent_of_first pending first
  have speaks_iff : s.standing ≠ .silent ↔ s.lp.trouble < 192 := by
    rw [ne_eq, State.standing, standingOf_silent_iff, Nat.not_le]
  refine ⟨fun free origin idle speaks state passed => ?_, fun held => ?_⟩
  · have runs : accessRuns s = true ∧ mayStart s.stc.state h.stmt = true ∧ accessWait s cls ≤ elapsed :=
      ⟨(Frames.accessRuns_iff s).mpr ⟨free, origin, idle, speaks_iff.mpr speaks⟩,
        (Frames.mayStart_iff _ _).mpr state, (accessWait_of_speaking speaks cls).trans_le passed⟩
    have starts : work (.accessWaitEnd elapsed) s = s.startFrame cls h := by
      simp only [work, State.tryStart, most]
      exact if_pos runs
    exact ⟨_, exec_of_work starts, drivePins_of_eq rfl, rfl, rfl⟩
  · refine exec_of_work_self ?_
    simp only [work, State.tryStart, most]
    refine if_neg ?_
    rintro ⟨runs, starts, passed⟩
    obtain ⟨free, origin, idle, speaks⟩ := (Frames.accessRuns_iff s).mp runs
    rw [speaks_iff] at speaks
    rw [accessWait_of_speaking speaks] at passed
    rw [Frames.mayStart_iff] at starts
    obtain busy | unset | sending | silent | ⟨-, early⟩ | ⟨notActive, notLeave⟩ := held
    · cases busy.symm.trans free
    · exact origin unset
    · exact sending idle
    · omega
    · exact absurd passed (Nat.not_le.mpr early)
    · exact starts.elim notActive notLeave

end Sys2Proof.Saying
end

section
/-! PROOFS. The end of a frame (spec/04, 4.4): completion and collision, what each leaves in the slots, the counts and the station
state (R86, R90 to R92, R98, R162, R168). -/

namespace Sys2Proof.FrameEnds

open Sys2Proof Sys2Proof.Machine Sys2Proof.Commands Sys2Proof.Paths Sys2Proof.Reception Sys2Proof.PlainEvents

/-! ### A slot settled and the urgent slot filled (R86, R88) -/

/-- STX with the head of the queue moved into an EMPTY urgent slot in ACTIVE. -/
def filled (state : StationState) (x : Stx) : Stx :=
  match state, x.urgent, x.queue with
  | .active, .empty, a :: rest => { x with urgent := .pending (newlyHeld (.alert a)), queue := rest }
  | _, _, _ => x

theorem filled_of_not_waiting {state : StationState} {x : Stx}
    (not : ∀ a rest, state = .active → x.urgent = .empty → x.queue = a :: rest → False) : filled state x = x := by
  unfold filled
  split
  · next active empty queue => exact (not _ _ rfl empty queue).elim
  · rfl

theorem fillUrgent_stx (s : State) : s.fillUrgent.stx = filled s.stc.state s.stx := by
  rw [State.fillUrgent]
  split
  · next active empty queue => simp only [filled, active, empty, queue, putStx_stx]
  · next other => rw [filled_of_not_waiting other]

theorem filled_seq (state : StationState) (x : Stx) : (filled state x).seq = x.seq := by
  unfold filled
  split <;> rfl

theorem filled_of_held {state : StationState} {x : Stx} (held : x.urgent ≠ .empty) : filled state x = x := by
  unfold filled
  split
  · next empty _ => exact absurd empty held
  · rfl

theorem filled_of_no_alert {state : StationState} {x : Stx} (queue : x.queue = []) : filled state x = x := by
  unfold filled
  split
  · next waiting => cases queue.symm.trans waiting
  · rfl

theorem filled_of_not_active {state : StationState} (x : Stx) (other : state ≠ .active) : filled state x = x := by
  unfold filled
  split
  · exact absurd rfl other
  · rfl

theorem filled_of_alert {x : Stx} {a : Alert} {rest : List Alert} (empty : x.urgent = .empty) (queue : x.queue = a :: rest) :
    filled .active x = { x with urgent := .pending (newlyHeld (.alert a)), queue := rest } := by
  simp only [filled, empty, queue]

/-- The origin where a frame has ended (R88). -/
def originAfter (lp : Lp) (before after : Stx) : AccessOrigin :=
  if lp.line = .free ∧ anyPending before = false ∧ anyPending after = true then .slotPending else lp.origin

/-- With no frame under way, a slot put and the urgent slot filled, in one. -/
theorem fillUrgent_putStx {s : State} {x : Stx} (idle : s.lp.tx = none)
    (keeps : anyPending s.stx = true → anyPending x = true) :
    (s.putStx x).fillUrgent = { s with
      stx := filled s.stc.state x
      lp := { s.lp with origin := originAfter s.lp s.stx (filled s.stc.state x) } } := by
  have only := onlyStxAndOrigin_trans (putStx_onlyStxAndOrigin s x) (fillUrgent_onlyStxAndOrigin (s.putStx x))
  have follows : OriginFollows s (s.putStx x).fillUrgent := by
    obtain ⟨line, tx, -⟩ := putStx_lp_kept s x
    refine originFollows_trans (originFollows_putStx s x) (originFollows_fillUrgent _) line tx ?_ ?_
    · rw [putStx_stx]
      exact keeps
    · exact anyPending_fillUrgent
  have stx : (s.putStx x).fillUrgent.stx = filled s.stc.state x := by
    rw [fillUrgent_stx, putStx_stx, putStx_stc]
  rw [OriginFollows, stx] at follows
  simp only [idle, true_and] at follows
  rw [OnlyStxAndOrigin, stx, follows] at only
  exact only

/-- A slot that is SENDING counts as no PENDING one, so settling it loses none. -/
theorem anyPending_withSlot {x : Stx} {cls : SlotClass} (slot : Slot) (sending : isPending (slotOf x cls) = false)
    (pending : anyPending x = true) : anyPending (withSlot x cls slot) = true := by
  cases cls <;> simp_all [anyPending, slotOf, withSlot] <;> tauto

/-! ### PARKED at the end (R168, R169) -/

theorem enterParked_values (s : State) :
    s.enterParked.stx = stxOff s.stx ∧ s.enterParked.pt = PeerTable.empty ∧ s.enterParked.lp.tx = none
      ∧ s.enterParked.lp.trouble = 0 ∧ s.enterParked.stc.parkTimer = 0
      ∧ s.enterParked.stc.state = if s.inp.ign = true then .listen else .parked := by
  obtain ⟨off, parks⟩ | ⟨on, wakes⟩ := enterParked_cases s
  · rw [parks, off]
    exact ⟨rfl, rfl, rfl, rfl, rfl, rfl⟩
  · rw [wakes, on, wake_stx, wake_pt, wake_lp, wake_stc]
    exact ⟨rfl, rfl, rfl, rfl, rfl, rfl⟩

theorem enterParked_of_off {s : State} (off : s.inp.ign = false) : s.enterParked = s.park := if_neg (by simp [off])

theorem enterParked_of_on {s : State} (on : s.inp.ign = true) : s.enterParked = s.park.wake := if_pos on

theorem leaveReported_of_leaving {s : State} {gone : Bool} (reported : gone = true) (leaving : s.stc.state = .leaving) :
    s.leaveReported gone = s.enterParked := if_pos ⟨reported, leaving⟩

theorem leaveReported_of_other {s : State} {gone : Bool} (other : ¬(gone = true ∧ s.stc.state = .leaving)) :
    s.leaveReported gone = s := if_neg other

/-! ### Completion (R92) -/

theorem lpLower_eq (lp : Lp) :
    lpLower lp = { lp with trouble := if 192 ≤ lp.trouble then lp.trouble else lp.trouble - 1 } := by
  by_cases silent : 192 ≤ lp.trouble
  · rw [lpLower, if_pos ((standingOf_silent_iff _).mpr silent), if_pos silent]
  · rw [lpLower, if_neg (mt (standingOf_silent_iff _).mp silent), if_neg silent]

/-- LP as a completed frame leaves it, the origin apart. -/
def lpCompleted (lp : Lp) : Lp :=
  { lp with tx := none, tail := .completed, trouble := if 192 ≤ lp.trouble then lp.trouble else lp.trouble - 1 }

/-- The blocks as a completed frame leaves them, before a LEAVE is reported. -/
def completed (s : State) (cls : SlotClass) (followUp : Option Statement) : State :=
  let x := filled s.stc.state (withSlot s.stx cls (slotAfterCompletion followUp))
  { s with stx := x, lp := { lpCompleted s.lp with origin := originAfter s.lp s.stx x } }

theorem readBack_of_last {s : State} {f : TxFrame} {c : Character} {h : Held} {followUp : Option Statement} {noRetry : Bool}
    (matched : readBackMatches f c = true) (last : f.bytes.length ≤ f.idx + 1)
    (sending : slotOf s.stx f.cls = .sending h followUp noRetry) :
    s.readBack f (some c) = (completed s f.cls followUp).leaveReported (h.stmt == .leave) := by
  have ended : s.readBack f (some c) = (s.setLp (lpFrameEnds .completed (some c) s.lp)).frameCompleted f.cls := by
    unfold State.readBack
    rw [if_pos (by simpa using matched), if_pos ((lastCharacter_iff f).mpr last)]
  rw [ended, frameCompleted_of_sending (s := s.setLp (lpFrameEnds .completed (some c) s.lp)) sending, fillUrgent_putStx]
  · rw [setLp_lp, lpLower_eq]
    rfl
  · rw [setLp_lp, lpLower_eq]
    rfl
  · have notPending : isPending (slotOf s.stx f.cls) = false := by rw [sending]; rfl
    exact anyPending_withSlot (x := s.stx) _ notPending

theorem withSlot_urgent_of_ne {x : Stx} {cls : SlotClass} (slot : Slot) (other : cls ≠ .urgent) :
    (withSlot x cls slot).urgent = x.urgent :=
  slotOf_withSlot_ne x (d := .urgent) slot (Ne.symm other)

/-- Where a completed frame leaves the urgent slot to nothing in the queue (R86). -/
theorem filled_completed_of_none {s : State} (legal : AlertQueueLegal s) {cls : SlotClass} {followUp : Option Statement}
    (other : cls ≠ .urgent ∨ followUp ≠ none ∨ s.stx.queue = [] ∨ s.stc.state ≠ .active) :
    filled s.stc.state (withSlot s.stx cls (slotAfterCompletion followUp))
      = withSlot s.stx cls (slotAfterCompletion followUp) := by
  by_cases active : s.stc.state = .active
  · by_cases queue : s.stx.queue = []
    · exact filled_of_no_alert ((withSlot_queue _ _ _).trans queue)
    · refine filled_of_held ?_
      by_cases urgent : cls = .urgent
      · subst urgent
        cases followUp with
        | none => simp_all
        | some stmt => exact fun empty => nomatch empty
      · rw [withSlot_urgent_of_ne _ urgent]
        exact fun empty => queue (legal.2.2.2 active empty)
  · exact filled_of_not_active _ active

/-- Settles O34: the frame completed, and the LEAVE that parks the station. -/
theorem frameCompletes : Obligations.FrameCompletes := by
  intro s f c ign h followUp noRetry legal tx last good mark data sending settled
  have matched := (readBackMatches_iff f c).mpr ⟨good, mark, data⟩
  have settled_eq : slotAfterCompletion followUp = settled := by cases followUp <;> rfl
  have ends : work (.characterReadBack (some c) ign) s
      = (completed (s.latchIgn ign) f.cls followUp).leaveReported (h.stmt == .leave) :=
    (work_characterReadBack_of_sending tx _ ign).trans (readBack_of_last matched last sending)
  have reported : h.stmt == .leave ↔ h.stmt = .leave := beq_iff_eq
  by_cases leaves : h.stmt = .leave ∧ s.stc.state = .leaving
  · obtain ⟨leave, leaving⟩ := leaves
    have parks : work (.characterReadBack (some c) ign) s = (completed (s.latchIgn ign) f.cls followUp).enterParked :=
      ends.trans (leaveReported_of_leaving (reported.mpr leave) leaving)
    obtain ⟨stx, pt, noTx, trouble, timer, -⟩ := enterParked_values (completed (s.latchIgn ign) f.cls followUp)
    refine ⟨_, exec_of_work parks, noTx, ?_, fun other => absurd ⟨leave, leaving⟩ other, fun _ _ => ?_⟩
    · rw [drivePins_out, outputsOf, State.de, noTx]
      rfl
    · rw [drivePins_stx, drivePins_pt, drivePins_lp, drivePins_stc, stx, pt]
      refine ⟨rfl, rfl, rfl, rfl, ?_, slotGet_empty, trouble, timer, ?_, ?_⟩
      · exact (filled_seq _ _).trans (withSlot_seq _ _ _)
      · rintro rfl
        rw [enterParked_of_off (s := completed (s.latchIgn false) f.cls followUp) rfl]
        exact ⟨rfl, rfl, rfl⟩
      · rintro rfl
        rw [enterParked_of_on (s := completed (s.latchIgn true) f.cls followUp) rfl, drivePins_sc, wake_stc, wake_lp,
          DemandAndCommand.wake_sc]
        exact ⟨rfl, rfl, rfl⟩
  · have stays : work (.characterReadBack (some c) ign) s = completed (s.latchIgn ign) f.cls followUp :=
      ends.trans (leaveReported_of_other fun both => leaves ⟨reported.mp both.1, both.2⟩)
    refine ⟨_, exec_of_work stays, rfl, rfl, fun _ => ⟨drivePins_of_eq rfl, rfl, fun other => ?_, ?_⟩,
      fun leave leaving => absurd ⟨leave, leaving⟩ leaves⟩
    · rw [← settled_eq]
      exact filled_completed_of_none legal other
    · rintro a rest urgent rfl active queue
      have after : (completed (s.latchIgn ign) f.cls none).stx = filled s.stc.state (withSlot s.stx f.cls .empty) := rfl
      rw [drivePins_stx, after, urgent, active, filled_of_alert (x := withSlot s.stx .urgent .empty) rfl queue]
      rfl

/-! ### Collision (R90, R91, R98) -/

/-- LP as a collision leaves it, the counts apart. -/
def lpCollided (read : Option Character) (lp : Lp) : Lp :=
  { lp with tx := none, tail := .collided, line := if read = none then .busy else lp.line }

/-- The blocks as a failed attempt leaves them, before it counts. -/
def collided (s : State) (cls : SlotClass) (read : Option Character) (slot : Slot) : State :=
  let x := filled s.stc.state (withSlot s.stx cls slot)
  { s with stx := x, lp := { lpCollided read s.lp with origin := originAfter (lpCollided read s.lp) s.stx x } }

/-- The third failure counts 8; on becoming SILENT the station in ACTIVE goes to LOCAL. -/
def counted (third : Bool) (s : State) : State := if third then s.countLp (lpRaise 8 s.lp) else s

theorem readBack_of_collision {s : State} {f : TxFrame} {read : Option Character} {h : Held} {followUp : Option Statement}
    {noRetry : Bool} (differs : read.any (readBackMatches f) = false)
    (sending : slotOf s.stx f.cls = .sending h followUp noRetry) :
    s.readBack f read
      = (counted (thirdFailure h) (collided s f.cls read (slotAfterFailure h followUp noRetry))).leaveReported
        (thirdFailure h && h.stmt == .leave) := by
  have notPending : isPending (slotOf s.stx f.cls) = false := by rw [sending]; rfl
  have ended : s.readBack f read = (s.setLp (lpFrameEnds .collided read s.lp)).attemptFailed f.cls := by
    unfold State.readBack
    rw [if_neg (by simp [differs])]
  have settles : settled (s.setLp (lpFrameEnds .collided read s.lp)) f.cls h followUp noRetry
      = collided s f.cls read (slotAfterFailure h followUp noRetry) :=
    fillUrgent_putStx (s := s.setLp (lpFrameEnds .collided read s.lp))
      (x := withSlot s.stx f.cls (slotAfterFailure h followUp noRetry)) rfl (anyPending_withSlot (x := s.stx) _ notPending)
  rw [ended, attemptFailed_of_sending (s := s.setLp (lpFrameEnds .collided read s.lp)) sending, settles]
  rfl

/-- The trouble count after a failed attempt. -/
def troubleAfter (third : Bool) (trouble : Nat) : Nat := if third = true ∧ trouble < 192 then trouble + 8 else trouble

/-- The attempt makes the station SILENT. -/
def Falls (third : Bool) (trouble : Nat) : Prop := trouble < 192 ∧ 192 ≤ troubleAfter third trouble

/-- LP after the count of a failed attempt. -/
def lpCounted (third : Bool) (lp : Lp) : Lp :=
  { lp with
    trouble := troubleAfter third lp.trouble
    recovery := if lp.trouble < 192 ∧ 192 ≤ troubleAfter third lp.trouble then 0 else lp.recovery }

theorem counted_eq_takeStanding (third : Bool) (s : State) :
    counted third s = (s.setLp (lpCounted third s.lp)).takeStanding s.standing := by
  have frozen (trouble : troubleAfter third s.lp.trouble = s.lp.trouble) : lpCounted third s.lp = s.lp := by
    rw [lpCounted, trouble, if_neg (by omega)]
  cases third with
  | false =>
    rw [frozen (if_neg (by simp))]
    exact (takeStanding_of_same (s := s.setLp s.lp) Iff.rfl).symm
  | true =>
    have raised : lpRaise 8 s.lp = lpCounted true s.lp := by
      by_cases speaks : s.lp.trouble < 192
      · have after : troubleAfter true s.lp.trouble = s.lp.trouble + 8 := if_pos ⟨rfl, speaks⟩
        by_cases below : s.lp.trouble + 8 < 192
        · rw [lpRaise_of_speaking speaks below, lpCounted, after, if_neg (by omega)]
        · have count : min 255 (s.lp.trouble + 8) = s.lp.trouble + 8 := by omega
          rw [lpRaise_of_silenced speaks (Nat.not_lt.mp below), lpCounted, after, if_pos (by omega), count]
      · rw [lpRaise_of_silent 8 (Nat.not_lt.mp speaks), frozen (if_neg fun both => speaks both.2)]
    rw [counted, if_pos rfl, State.countLp, raised]

theorem counted_of_stays {third : Bool} {s : State} (stays : ¬(Falls third s.lp.trouble ∧ s.stc.state = .active)) :
    counted third s = s.setLp (lpCounted third s.lp) := by
  rw [counted_eq_takeStanding]
  by_cases falls : Falls third s.lp.trouble
  · refine takeStanding_of_not_active ?_ fun active => stays ⟨falls, active⟩
    rw [ne_eq, standing_silent_iff]
    exact Nat.not_le.mpr falls.1
  · refine takeStanding_of_same ?_
    have grows : s.lp.trouble ≤ troubleAfter third s.lp.trouble := by
      unfold troubleAfter
      split <;> omega
    have below : ¬(s.lp.trouble < 192 ∧ 192 ≤ troubleAfter third s.lp.trouble) := falls
    rw [standing_silent_iff, standing_silent_iff]
    show 192 ≤ s.lp.trouble ↔ 192 ≤ troubleAfter third s.lp.trouble
    omega

theorem counted_of_falls {third : Bool} {s : State} (falls : Falls third s.lp.trouble) (active : s.stc.state = .active) :
    counted third s = (s.setLp (lpCounted third s.lp)).enterLocal := by
  rw [counted_eq_takeStanding]
  refine takeStanding_of_silenced ?_ ((standing_silent_iff _).mpr falls.2) active
  rw [ne_eq, standing_silent_iff]
  exact Nat.not_le.mpr falls.1

theorem thirdFailure_eq {h : Held} (few : h.failed ≤ 2) : thirdFailure h = decide (h.failed = 2) := by
  rw [thirdFailure, decide_eq_decide]
  omega

theorem slotAfterFailure_eq {h : Held} (few : h.failed ≤ 2) (followUp : Option Statement) (noRetry : Bool) :
    slotAfterFailure h followUp noRetry
      = match followUp with
        | some stmt => .pending { stmt := stmt, seq := none, failed := 0 }
        | none => if h.failed = 2 ∨ noRetry = true then .empty else .pending { h with failed := h.failed + 1 } := by
  cases followUp with
  | none => simp [slotAfterFailure, thirdFailure_eq few]
  | some stmt => rfl

theorem any_readBackMatches_eq_false {f : TxFrame} {read : Option Character}
    (differs : ∀ c, read = some c →
      ¬(charGood c = true ∧ (charMark c = true ↔ f.idx = 0) ∧ charData c = byteAt f.bytes f.idx)) :
    read.any (readBackMatches f) = false := by
  cases read with
  | none => rfl
  | some c => exact Bool.eq_false_iff.mpr (mt (readBackMatches_iff f c).mp (differs c rfl))

/-- Settles O35: the attempt that parks, the one that silences a station in ACTIVE, and every other. -/
theorem failedAttempts : Obligations.FailedAttempts := by
  intro s f read ign h followUp noRetry tx sending few differs line settled stx filled' trouble falls parks
  let third := thirdFailure h
  let w := collided (s.latchIgn ign) f.cls read settled
  have third_iff : third = true ↔ h.failed = 2 := by simp [third, thirdFailure_eq few]
  have trouble_eq : troubleAfter third s.lp.trouble = trouble := by simp only [troubleAfter, third_iff, trouble]
  have falls_iff : Falls third s.lp.trouble ↔ falls := by rw [Falls, trouble_eq]
  let recovery := if s.lp.trouble < 192 ∧ 192 ≤ trouble then 0 else s.lp.recovery
  have lp_eq : lpCounted third w.lp = { w.lp with trouble := trouble, recovery := recovery } := by
    have before : w.lp.trouble = s.lp.trouble := rfl
    have held : w.lp.recovery = s.lp.recovery := rfl
    rw [lpCounted, before, trouble_eq, held]
  have slot : slotAfterFailure h followUp noRetry = settled := slotAfterFailure_eq few followUp noRetry
  have ends : work (.characterReadBack read ign) s = (counted third w).leaveReported (third && h.stmt == .leave) := by
    rw [work_characterReadBack_of_sending tx,
      readBack_of_collision (s := s.latchIgn ign) (any_readBackMatches_eq_false differs) sending, slot]
  have reported : (third && h.stmt == .leave) = true ↔ h.failed = 2 ∧ h.stmt = .leave := by
    rw [Bool.and_eq_true, third_iff, beq_iff_eq]
  have seq : w.stx.seq = s.stx.seq := (filled_seq _ _).trans (withSlot_seq _ _ _)
  by_cases silenced : falls ∧ s.stc.state = .active
  · have entered : work (.characterReadBack read ign) s
        = (w.setLp { w.lp with trouble := trouble, recovery := recovery }).enterLocal := by
      rw [ends, counted_of_falls (s := w) (falls_iff.mpr silenced.1) silenced.2, lp_eq]
      exact leaveReported_of_other fun both => nomatch both.2
    have notParks : ¬parks := fun parks => by cases parks.2.2.symm.trans silenced.2
    refine ⟨_, exec_of_work entered, rfl, rfl, seq, fun _ => rfl, fun _ other => absurd silenced other, fun _ _ => ?_,
      fun parks => absurd parks notParks⟩
    exact ⟨rfl, if_pos silenced.1, rfl, anyPending_stxLocal _, rfl, rfl, rfl, rfl, scLocal_of_not_driving (s := w)⟩
  · have stays : counted third w = w.setLp { w.lp with trouble := trouble, recovery := recovery } := by
      rw [counted_of_stays (s := w) fun both => silenced ⟨falls_iff.mp both.1, both.2⟩, lp_eq]
    rw [stays] at ends
    by_cases parks_now : parks
    · have parked := ends.trans (leaveReported_of_leaving (reported.mpr ⟨parks_now.1, parks_now.2.1⟩) parks_now.2.2)
      obtain ⟨stxOff_eq, -, noTx, noTrouble, timer, state⟩ :=
        enterParked_values (w.setLp { w.lp with trouble := trouble, recovery := recovery })
      refine ⟨_, exec_of_work parked, noTx, ?_, ?_, fun other => absurd parks_now other,
        fun other => absurd parks_now other, fun falls active => absurd ⟨falls, active⟩ silenced, fun _ => ?_⟩
      · rw [drivePins_out, outputsOf, State.de, noTx]
        rfl
      · rw [drivePins_stx, stxOff_eq]
        exact seq
      · rw [drivePins_lp, drivePins_stx, drivePins_stc, stxOff_eq]
        exact ⟨noTrouble, rfl, rfl, timer, state⟩
    · have ended := ends.trans (leaveReported_of_other fun both =>
        parks_now ⟨(reported.mp both.1).1, (reported.mp both.1).2, both.2⟩)
      refine ⟨_, exec_of_work ended, rfl, rfl, seq, fun _ => rfl, fun _ _ => ⟨drivePins_of_eq rfl, rfl, ?_, ?_⟩,
        fun falls active => absurd ⟨falls, active⟩ silenced, fun parks => absurd parks parks_now⟩
      · exact fun falls => if_pos falls
      · exact fun stands => if_neg stands

end Sys2Proof.FrameEnds
end

section
/-! PROOFS. The values CU forms and the thermal expiry (spec/05), and the drive code against the take (spec/07, 7.2 and 7.5). -/

namespace Sys2Proof.ThermalExpiry

open Sys2Proof Sys2Proof.Machine Sys2Proof.Commands Sys2Proof.Capacities Sys2Proof.StartOfWork

/-! ### The values formed (R104, R106, R107) -/

theorem vrefAvailable_iff (am : Am) : vrefAvailable am = true ↔ am.vrefState ≠ .unavailable := by
  rw [vrefAvailable]
  cases am.vrefState <;> decide

theorem ite_vrefAvailable (am : Am) :
    (if vrefAvailable am = true then am.vref else 0) = if am.vrefState = .unavailable then 0 else am.vref := by
  rw [if_congr (vrefAvailable_iff am) rfl rfl, ite_not]

theorem speedIndexOf_of_retarder {c : Cfg} (role : cfgRole c = .retarder) (am : Am) (cu : Cu) :
    speedIndexOf c am cu = if am.vrefState = .unavailable then 0 else am.vref := by
  rw [← ite_vrefAvailable, speedIndexOf, role]

theorem speedIndexOf_of_exhaust {c : Cfg} (role : cfgRole c = .exhaust) (am : Am) (cu : Cu) :
    speedIndexOf c am cu = cu.engSpeed := by
  rw [speedIndexOf, role]

theorem tempFraction_of_code {cu : Cu} {code : Nat} (given : cu.code = some code) (c : Cfg) :
    tempFraction c cu = curveRead c.loc.tempCurve code := by
  rw [tempFraction, given]

theorem advertised_of_guarded {c : Cfg} {sc : Sc} {code : Option Nat} {guarded : Bool} {raw : Nat}
    (given : ¬(sc.degraded = true ∨ sc.tempHold = true ∨ code = none)) (on : guarded = true) :
    advertised c sc code guarded raw = raw * min c.loc.guardFrac 256 / 256 := by
  obtain ⟨normal, free, coded⟩ := not_or.trans (and_congr_right fun _ => not_or) |>.mp given
  rw [advertised, if_neg normal, if_neg free, if_neg coded, if_pos on]
  rfl

theorem advertised_of_not_guarded {c : Cfg} {sc : Sc} {code : Option Nat} {guarded : Bool} {raw : Nat}
    (given : ¬(sc.degraded = true ∨ sc.tempHold = true ∨ code = none)) (off : guarded = false) :
    advertised c sc code guarded raw = raw := by
  obtain ⟨normal, free, coded⟩ := not_or.trans (and_congr_right fun _ => not_or) |>.mp given
  rw [advertised, if_neg normal, if_neg free, if_neg coded, if_neg (by rw [off]; exact Bool.false_ne_true)]

/-- With good curves C never passes KMAX: 0 without a code, scaled by fractions of at most 256 with one. -/
theorem cuForm_capacity_le {c : Cfg} (temp : curveOk c.loc.tempCurve = true) (speed : curveOk c.loc.speedCurve = true)
    (am : Am) (sc : Sc) (cu : Cu) : (cuForm c am sc cu).capacity ≤ c.loc.kmax := by
  cases given : cu.code with
  | none => exact (advertised_zero (.inr (.inr given))).trans_le (Nat.zero_le _)
  | some code =>
    refine (advertised_le _ _ _ _ _).trans (rawCapacity_le ?_ (speedFraction_le speed _))
    rw [tempFraction_of_code given]
    exact curveRead_le_of_ok temp code

/-- Settles O38: the fractions by role, and the line of R107 that applies. -/
theorem advertisedCapacity : Obligations.AdvertisedCapacity := fun _ am sc cu =>
  ⟨rfl, fun role => speedIndexOf_of_retarder role am cu, fun role => speedIndexOf_of_exhaust role am cu,
    fun role => if_pos role, fun role => if_neg role, fun _ given => tempFraction_of_code given _, rfl,
    fun released => advertised_zero released, fun given on => advertised_of_guarded given on,
    fun given off => advertised_of_not_guarded given off, fun temp speed => cuForm_capacity_le temp speed am sc cu⟩

/-! ### The thermal expiry (R114 to R118) -/

theorem thetaMax_eq : thetaMax = 65535 * 2 ^ 20 + 1048575 := rfl

theorem estimateNext_eq (c : Cfg) (take speed theta : Nat) :
    estimateNext c take speed theta
      = min (65535 * 2 ^ 20 + 1048575)
        (theta + take * speed * c.loc.heatGain
          - (theta + take * speed * c.loc.heatGain - c.loc.ambient * 2 ^ 20) * c.loc.coolGain / 2 ^ 24) := by
  rw [estimateNext, thetaMax_eq, coolStep, thetaAmb, heatStep, codeStep, Nat.mul_comm (2 ^ 20) c.loc.ambient]

theorem heatSpeed_eq (am : Am) :
    heatSpeed am = if am.faultFlag = true then (if am.vrefState = .unavailable then 0 else am.vref) else am.w := by
  rw [heatSpeed, ite_vrefAvailable]

theorem heatAndCool_kept_but (s : State) :
    s.heatAndCool = { s with
      te := { theta := estimateNext s.cfg s.sc.take (heatSpeed s.am) s.te.theta }, cu := s.heatAndCool.cu } := rfl

theorem heatAndCool_cu (s : State) :
    s.heatAndCool.cu = cuForm s.cfg s.am s.sc
      (cuTakeCode s.cfg (thetaCode (estimateNext s.cfg s.sc.take (heatSpeed s.am) s.te.theta)) s.cu) := rfl

/-- An AXLE has no speed curve: the raw capacity is the temperature fraction's. -/
theorem cuForm_capacity_of_axle {c : Cfg} (axle : cfgRole c = .axle) (am : Am) (sc : Sc) (cu : Cu) :
    (cuForm c am sc cu).capacity
      = advertised c sc cu.code cu.guarded (c.loc.kmax * (cuForm c am sc cu).fT / 256) := by
  have whole : speedFraction c (speedIndexOf c am cu) = 256 := if_pos axle
  change advertised c sc cu.code cu.guarded (rawCapacity c _ (speedFraction c _)) = _
  rw [whole, rawCapacity, Nat.mul_div_cancel _ (by decide)]
  rfl

/-- Settles O39: the estimate stepped, and CU formed with its code. -/
theorem thermalExpiryHeatsAndCools : Obligations.ThermalExpiryHeatsAndCools := by
  refine ⟨fun s op axle => ?_, fun s idle => exec_of_work_self (if_neg ?_)⟩
  · intro speed ambient hot theta
    have stepped : estimateNext s.cfg s.sc.take (heatSpeed s.am) s.te.theta = theta := by
      rw [estimateNext_eq, heatSpeed_eq]
    have taken := heatAndCool_cu s
    have kept := drivePins_of_eq (heatAndCool_kept_but s)
    rw [stepped] at taken kept
    have formed : s.heatAndCool.cu.capacity
        = advertised s.cfg s.sc (some (thetaCode theta)) s.heatAndCool.cu.guarded
          (s.cfg.loc.kmax * s.heatAndCool.cu.fT / 256) := by
      rw [taken]
      exact cuForm_capacity_of_axle axle _ _ _
    refine ⟨_, exec_of_work (if_pos ⟨op, axle⟩), kept, ?_, ?_, ?_, ?_, ?_, ?_, ?_⟩
    all_goals simp only [drivePins_cu]
    · rw [taken]
      rfl
    · intro off
      rw [taken]
      exact guardNext_of_off off _
    · intro on
      rw [taken]
      exact guardNext_of_on on _
    · rw [taken]
      rfl
    · intro released
      rw [formed]
      exact advertised_zero (released.imp_right .inl)
    · intro normal free off
      rw [formed]
      exact advertised_of_not_guarded (by simp [normal, free]) off
    · intro normal free on
      rw [formed]
      exact advertised_of_guarded (by simp [normal, free]) on
  · rintro ⟨op, axle⟩
    obtain off | other := idle
    · exact absurd (op.symm.trans off) (by decide)
    · exact other axle

/-! ### The drive code against the take (R137, R145) -/

/-- Division rounded up, multiplied back. -/
theorem le_divUp_mul {a b : Nat} (positive : 1 ≤ b) : a ≤ divUp a b * b ∧ divUp a b * b < a + b := by
  have whole := Nat.div_add_mod (a + b - 1) b
  have rest := Nat.mod_lt (a + b - 1) positive
  rw [Nat.mul_comm] at whole
  unfold divUp
  omega

/-- Settles O47: the zero code drops out, and the quotient rounded up lies within one of the command. -/
theorem driveCodeInvertsTheTake : Obligations.DriveCodeInvertsTheTake := by
  intro cfg c driven bound gain low high
  obtain ⟨above, below⟩ := le_divUp_mul (a := c * 256) gain
  have valid : readingValid (driveCode cfg c) = true := (DemandUnit.readingValid_iff _).mpr ⟨low, high⟩
  have code : driveCode cfg c = fbZeroUsed cfg + divUp (c * 256) cfg.loc.fbGain := by
    rw [driveCode, if_neg (by omega)] at high ⊢
    omega
  have take : feedbackTake cfg (driveCode cfg c) = min 2047 (divUp (c * 256) cfg.loc.fbGain * cfg.loc.fbGain / 256) := by
    rw [feedbackTake, if_pos valid, code, Nat.add_sub_cancel_left]
  rw [take]
  omega

end Sys2Proof.ThermalExpiry
end

section
/-! PROOFS. The adhesion monitor's evaluation (spec/06): the reference speed, the speed-sensor fault and the adhesion limit. -/

namespace Sys2Proof.AdhesionMonitor

open Sys2Proof Sys2Proof.Machine Sys2Proof.Commands Sys2Proof.DemandAndCommand Sys2Proof.AdhesionRange

/-! ### The evaluation as a whole (R108, R122) -/

/-- The state an alert of the evaluation is offered in. -/
def evaluated (s : State) : State :=
  if s.role = .retarder then (s.setAm (amNext s)).formCapacity else s.setAm (amNext s)

theorem evaluated_kept_but (s : State) : evaluated s = { s with am := amNext s, cu := (evaluated s).cu } := by
  unfold evaluated
  split <;> rfl

theorem evaluated_cu (s : State) :
    (evaluated s).cu = if s.role = .retarder then cuForm s.cfg (amNext s) s.sc s.cu else s.cu := by
  unfold evaluated
  split <;> rfl

theorem evaluateAdhesion_eq (s : State) :
    s.evaluateAdhesion
      = (evaluated s).offer (if s.role = .axle then speedAlert s.stc.id s.am (amNext s) else none) := rfl

theorem evaluateAdhesion_am (s : State) : s.evaluateAdhesion.am = amNext s := by
  rw [evaluateAdhesion_eq, offer_am, evaluated_kept_but]

theorem evaluateAdhesion_cu (s : State) :
    s.evaluateAdhesion.cu = if s.role = .retarder then cuForm s.cfg (amNext s) s.sc s.cu else s.cu := by
  rw [evaluateAdhesion_eq, offer_cu, evaluated_cu]

theorem evaluateAdhesion_stx (s : State) :
    s.evaluateAdhesion.stx
      = (s.offer (if s.role = .axle then speedAlert s.stc.id s.am (amNext s) else none)).stx := by
  rw [evaluateAdhesion_eq]
  exact offer_stx_congr _ (by rw [evaluated_kept_but]) (by rw [evaluated_kept_but])

theorem evaluateAdhesion_kept_but (s : State) :
    s.evaluateAdhesion = { s with
      am := s.evaluateAdhesion.am, cu := s.evaluateAdhesion.cu, stx := s.evaluateAdhesion.stx
      lp := { s.lp with origin := s.evaluateAdhesion.lp.origin } } := by
  refine state_ext (by simp) (by simp) (by simp) ?_ rfl (by simp) (by simp) (by simp) rfl (by simp) rfl (by simp) (by simp)
    (by simp) (by simp)
  rw [evaluateAdhesion_eq, offer_lp, evaluated_kept_but]

theorem originFollows_evaluateAdhesion (s : State) : OriginFollows s s.evaluateAdhesion := by
  rw [evaluateAdhesion_eq]
  refine originFollows_congr (originFollows_offer _ (evaluated s)) ?_ ?_ rfl rfl <;> rw [evaluated_kept_but]

/-! ### The reference speed (R124, R125) -/

theorem peerWheel_eq_some {slot : Option PeerRecord} {v : Nat} :
    peerWheel slot = some v
      ↔ ∃ r, slot = some r ∧ r.state = .fresh ∧ r.role = .axle ∧ r.speedFault = false
          ∧ v = min ((r.axle.map fun a => a.wheel.toNat).getD 0) 511 := by
  cases slot with
  | none => simp [peerWheel]
  | some r => simp [peerWheel, and_assoc, eq_comm (a := v)]

theorem ownWheel_eq_some {c : Cfg} {am : Am} {v : Nat} :
    ownWheel c am = some v ↔ cfgRole c = .axle ∧ am.faultFlag = false ∧ am.woken = false ∧ v = am.w := by
  simp [ownWheel, and_assoc, eq_comm (a := v)]

theorem mem_wheelMembers {c : Cfg} {t : PeerTable} {am : Am} {v : Nat} :
    v ∈ wheelMembers c t am
      ↔ (cfgRole c = .axle ∧ am.faultFlag = false ∧ am.woken = false ∧ v = am.w)
        ∨ ∃ j r, slotGet t j = some r ∧ r.state = .fresh ∧ r.role = .axle ∧ r.speedFault = false
            ∧ v = min ((r.axle.map fun a => a.wheel.toNat).getD 0) 511 := by
  simp only [wheelMembers, List.mem_append, Option.mem_toList, ownWheel_eq_some, List.mem_filterMap,
    Indications.mem_idents, true_and, peerWheel_eq_some]

theorem referenceStage_of_members {c : Cfg} {t : PeerTable} {am : Am} (anybody : wheelMembers c t am ≠ []) :
    referenceStage c t am
      = { am with vref := (wheelMembers c t am).foldl max 0, vrefState := .available, vrefHold := 0 } := by
  unfold referenceStage
  split
  · next members => rw [members]
  · next members => exact absurd members anybody

/-! Without a member, by the state of Vref. -/

section
variable {c : Cfg} {t : PeerTable} {am : Am} (nobody : wheelMembers c t am = [])
include nobody

theorem referenceStage_of_available (state : am.vrefState = .available) :
    referenceStage c t am = { am with vrefState := .held, vrefHold := 1 } := by
  simp only [referenceStage, nobody, state]

theorem referenceStage_of_held (state : am.vrefState = .held) (short : am.vrefHold < c.shared.vrefHold) :
    referenceStage c t am = { am with vrefHold := am.vrefHold + 1 } := by
  simp only [referenceStage, nobody, state, if_pos short]

theorem referenceStage_of_held_out (state : am.vrefState = .held) (long : c.shared.vrefHold ≤ am.vrefHold) :
    referenceStage c t am = { am with vrefState := .unavailable, vref := 0 } := by
  simp only [referenceStage, nobody, state, if_neg (Nat.not_lt.mpr long)]

theorem referenceStage_of_unavailable (state : am.vrefState = .unavailable) : referenceStage c t am = am := by
  simp only [referenceStage, nobody, state]

end

/-- What the reference speed leaves of AM. -/
theorem referenceStage_values (c : Cfg) (t : PeerTable) (am : Am) :
    (referenceStage c t am).w = am.w ∧ (referenceStage c t am).pulses = am.pulses
      ∧ (referenceStage c t am).faultFlag = am.faultFlag ∧ (referenceStage c t am).faultCount = am.faultCount
      ∧ (referenceStage c t am).limit = am.limit ∧ (referenceStage c t am).rise = am.rise
      ∧ (referenceStage c t am).spacing = am.spacing := by
  rw [referenceStage_kept]
  exact ⟨rfl, rfl, rfl, rfl, rfl, rfl, rfl⟩

/-- The stages of an AXLE keep the speeds, their hold count and the window. -/
theorem axleStages_kept (c : Cfg) (plan : LatestPlan) (take : Nat) (am : Am) :
    axleStages c plan take am
      = { am with
          faultFlag := (axleStages c plan take am).faultFlag, faultCount := (axleStages c plan take am).faultCount
          limit := (axleStages c plan take am).limit, rise := (axleStages c plan take am).rise
          spacing := (axleStages c plan take am).spacing } := by
  unfold axleStages
  simp only []
  split
  · rw [speedFaultStage_kept]
  · rw [limitStage_kept, speedFaultStage_kept]

/-- AM's evaluation sets Vref as its reference-speed stage does, whatever the role. -/
theorem amNext_reference (s : State) :
    (amNext s).vref = (referenceStage s.cfg s.pt s.am).vref
      ∧ (amNext s).vrefState = (referenceStage s.cfg s.pt s.am).vrefState
      ∧ (amNext s).vrefHold = (referenceStage s.cfg s.pt s.am).vrefHold
      ∧ (amNext s).w = s.am.w ∧ (amNext s).pulses = s.am.pulses := by
  obtain ⟨w, pulses, -⟩ := referenceStage_values s.cfg s.pt s.am
  unfold amNext
  simp only []
  split
  · rw [axleStages_kept]
    exact ⟨rfl, rfl, rfl, w, pulses⟩
  · exact ⟨rfl, rfl, rfl, w, pulses⟩

theorem amNext_of_not_axle {s : State} (other : s.role ≠ .axle) : amNext s = referenceStage s.cfg s.pt s.am := if_neg other

theorem amNext_of_axle {s : State} (axle : s.role = .axle) :
    amNext s = axleStages s.cfg s.pe.plan s.sc.take (referenceStage s.cfg s.pt s.am) := if_pos axle

theorem work_amEvaluationExpiry {s : State} (op : operating s.stc.state = true) :
    work .amEvaluationExpiry s = s.evaluateAdhesion := if_pos op

/-- Settles O41: the largest of the members, or the hold and its end, carried through the later stages. -/
theorem referenceSpeed : Obligations.ReferenceSpeed := by
  refine ⟨?_, fun s off => exec_of_work_self (if_neg (by simp [off]))⟩
  intro s op member
  have member_iff (v : Nat) : v ∈ wheelMembers s.cfg s.pt s.am ↔ member v := mem_wheelMembers
  obtain ⟨vref, vrefState, vrefHold, w, pulses⟩ := amNext_reference s
  refine ⟨_, exec_of_work (work_amEvaluationExpiry op), drivePins_of_eq (evaluateAdhesion_kept_but s),
    originFollows_evaluateAdhesion s, ?_, ?_, ?_, ?_⟩
  all_goals simp only [drivePins_am, drivePins_cu, drivePins_stx, evaluateAdhesion_am, evaluateAdhesion_cu,
    evaluateAdhesion_stx]
  · exact fun retarder => if_pos retarder
  · exact fun other => if_neg other
  · intro other
    rw [if_neg other, amNext_of_not_axle other]
    exact ⟨rfl, referenceStage_kept s.cfg s.pt s.am⟩
  · rw [vref, vrefState, vrefHold]
    refine ⟨w, pulses, ?_, ?_⟩
    · rintro ⟨v, given⟩
      have anybody : wheelMembers s.cfg s.pt s.am ≠ [] := List.ne_nil_of_mem ((member_iff v).mpr given)
      rw [referenceStage_of_members anybody]
      exact ⟨(member_iff _).mp (foldl_max_zero_mem anybody),
        fun v given => (foldl_max_spec _ 0).2.2 v ((member_iff v).mpr given), rfl, rfl⟩
    · intro nobody
      have empty : wheelMembers s.cfg s.pt s.am = [] :=
        List.eq_nil_iff_forall_not_mem.mpr fun v given => nobody ⟨v, (member_iff v).mp given⟩
      refine ⟨fun available => ?_, fun held short => ?_, fun held long => ?_, fun unavailable => ?_⟩
      · rw [referenceStage_of_available empty available]
        exact ⟨rfl, rfl, rfl⟩
      · rw [referenceStage_of_held empty held short]
        exact ⟨held, rfl, rfl⟩
      · rw [referenceStage_of_held_out empty held long]
        exact ⟨rfl, rfl⟩
      · rw [referenceStage_of_unavailable empty unavailable]
        exact ⟨unavailable, rfl⟩

/-! ### The speed-sensor fault (R127, R128) -/

theorem fastEnough_iff (c : Cfg) (am : Am) :
    fastEnough c am = true ↔ am.vrefState ≠ .unavailable ∧ min c.shared.slipMinSpeed 511 ≤ am.vref := by
  rw [fastEnough, Bool.and_eq_true, ThermalExpiry.vrefAvailable_iff, decide_eq_true_iff]
  rfl

theorem speedFaultCondition_iff (c : Cfg) (take : Nat) (am : Am) :
    speedFaultCondition c take am = true
      ↔ am.w = 0 ∧ take = 0 ∧ am.vrefState ≠ .unavailable ∧ min c.shared.slipMinSpeed 511 ≤ am.vref := by
  rw [speedFaultCondition, Bool.and_eq_true, Bool.and_eq_true, fastEnough_iff, beq_iff_eq, beq_iff_eq, and_assoc]

theorem slipCondition_iff (c : Cfg) (b : Nat) (am : Am) :
    slipCondition c b am = true
      ↔ (am.vrefState ≠ .unavailable ∧ min c.shared.slipMinSpeed 511 ≤ am.vref)
        ∧ (c.shared.slipRatio : Int) * am.vref < ((am.vref : Int) - am.w) * 256 ∧ 0 < b := by
  rw [slipCondition, Bool.and_eq_true, Bool.and_eq_true, fastEnough_iff, decide_eq_true_iff, decide_eq_true_iff, and_assoc]

section
variable {c : Cfg} {take : Nat} {am : Am}

theorem speedFaultStage_of_set (set : am.faultFlag = true) (still : am.w = 0) :
    speedFaultStage c take am = { am with limit := c.loc.lFloor } := by
  rw [speedFaultStage, if_pos set, if_neg (by omega)]

theorem speedFaultStage_of_pulse (set : am.faultFlag = true) (turns : 0 < am.w) :
    speedFaultStage c take am = { am with faultFlag := false, rise := c.loc.riseWait, limit := c.loc.lFloor } := by
  rw [speedFaultStage, if_pos set, if_pos turns]

theorem speedFaultStage_of_declared (clear : am.faultFlag = false) (fault : speedFaultCondition c take am = true)
    (long : 50 ≤ am.faultCount + 1) :
    speedFaultStage c take am = { am with faultFlag := true, limit := c.loc.lFloor, faultCount := 0 } := by
  rw [speedFaultStage, if_neg (by simp [clear]), if_pos fault]
  exact if_pos long

theorem speedFaultStage_of_counted (clear : am.faultFlag = false) (fault : speedFaultCondition c take am = true)
    (short : am.faultCount + 1 < 50) : speedFaultStage c take am = { am with faultCount := am.faultCount + 1 } := by
  rw [speedFaultStage, if_neg (by simp [clear]), if_pos fault]
  exact if_neg (Nat.not_le.mpr short)

theorem speedFaultStage_of_sound (clear : am.faultFlag = false) (sound : ¬speedFaultCondition c take am = true) :
    speedFaultStage c take am = { am with faultCount := 0 } := by
  rw [speedFaultStage, if_neg (by simp [clear]), if_neg sound]

/-- Where the flag is clear after the stage, L and the suspension go on from these values. -/
theorem speedFaultStage_of_clear (after : (speedFaultStage c take am).faultFlag = false) :
    speedFaultStage c take am = { am with
      faultFlag := false, faultCount := (speedFaultStage c take am).faultCount
      limit := if am.faultFlag = true then c.loc.lFloor else am.limit
      rise := if am.faultFlag = true then c.loc.riseWait else am.rise } := by
  cases before : am.faultFlag with
  | true =>
    by_cases still : am.w = 0
    · rw [speedFaultStage_of_set before still] at after
      exact absurd (before.symm.trans after) (by decide)
    · rw [speedFaultStage_of_pulse before (Nat.pos_of_ne_zero still)]
      rfl
  | false =>
    by_cases fault : speedFaultCondition c take am = true
    · by_cases long : 50 ≤ am.faultCount + 1
      · rw [speedFaultStage_of_declared before fault long] at after
        cases after
      · rw [speedFaultStage_of_counted before fault (Nat.not_le.mp long)]
        simp [before]
    · rw [speedFaultStage_of_sound before fault]
      simp [before]

/-! ### The adhesion limit (R129 to R133) -/

variable {b : Nat}

theorem limitStage_of_cut (slip : slipCondition c b am = true) (apart : 5 < min 255 (am.spacing + 1)) :
    limitStage c b am = { am with limit := cutLimit c b am.limit, spacing := 0, rise := c.loc.riseWait } :=
  if_pos (by simp only [slip, Bool.true_and, decide_eq_true apart])

theorem limitStage_of_no_cut (no : ¬(slipCondition c b am = true ∧ 5 < min 255 (am.spacing + 1))) :
    limitStage c b am
      = if 0 < am.rise then { am with spacing := min 255 (am.spacing + 1), rise := am.rise - 1 }
        else if slipCondition c b am = true then { am with spacing := min 255 (am.spacing + 1) }
        else { am with spacing := min 255 (am.spacing + 1), limit := min c.loc.lMax (am.limit + lRiseUsed c) } :=
  if_neg (by simpa only [Bool.and_eq_true, decide_eq_true_iff] using no)

theorem limitStage_spacing (no : ¬(slipCondition c b am = true ∧ 5 < min 255 (am.spacing + 1))) :
    (limitStage c b am).spacing = min 255 (am.spacing + 1) := by
  rw [limitStage_of_no_cut no]
  split
  · rfl
  · split <;> rfl

/-! ### The AXLE stages (R128) -/

theorem axleStages_of_set {plan : LatestPlan} (set : (speedFaultStage c take am).faultFlag = true) :
    axleStages c plan take am = speedFaultStage c take am := if_pos set

theorem axleStages_of_clear {plan : LatestPlan} (clear : (speedFaultStage c take am).faultFlag = false) :
    axleStages c plan take am = limitStage c (brakingMeasure plan take) (speedFaultStage c take am) :=
  if_neg (by simp [clear])

/-- The limit stage does not touch the flag and its count. -/
theorem axleStages_fault (plan : LatestPlan) :
    (axleStages c plan take am).faultFlag = (speedFaultStage c take am).faultFlag
      ∧ (axleStages c plan take am).faultCount = (speedFaultStage c take am).faultCount := by
  unfold axleStages
  simp only []
  split
  · exact ⟨rfl, rfl⟩
  · rw [limitStage_kept]
    exact ⟨rfl, rfl⟩

end

theorem evaluateAdhesion_stx_of_declared {s : State} (axle : s.role = .axle) (clear : s.am.faultFlag = false)
    (set : (amNext s).faultFlag = true) :
    s.evaluateAdhesion.stx
      = (s.offerAlert { code := 5, subject := BitVec.ofNat 8 s.stc.id.val, detail := 0 }).stx := by
  rw [evaluateAdhesion_stx, if_pos axle, speedAlert, if_pos ⟨clear, set⟩]
  rfl

theorem evaluateAdhesion_stx_of_not_declared {s : State} (axle : s.role = .axle)
    (not : ¬(s.am.faultFlag = false ∧ (amNext s).faultFlag = true)) : s.evaluateAdhesion.stx = s.stx := by
  rw [evaluateAdhesion_stx, if_pos axle, speedAlert, if_neg not]
  rfl

/-- Settles O42: the fault stage by the flag before, and the limit stage where the flag is clear after. -/
theorem speedFaultAndAdhesionLimit : Obligations.SpeedFaultAndAdhesionLimit := by
  intro s op axle limit rise b spacing
  obtain ⟨w, -, flag, count, limit_eq, rise_eq, spacing_eq⟩ := referenceStage_values s.cfg s.pt s.am
  obtain ⟨vref, vrefState, -, w', -⟩ := amNext_reference s
  have next := amNext_of_axle axle
  generalize referenceStage s.cfg s.pt s.am = am at *
  obtain ⟨flag', count'⟩ := axleStages_fault (c := s.cfg) (take := s.sc.take) (am := am) s.pe.plan
  rw [← next] at flag' count'
  refine ⟨_, exec_of_work (work_amEvaluationExpiry op), ?_⟩
  rw [drivePins_am, drivePins_stx, evaluateAdhesion_am]
  intro moving still slip
  have still_iff : speedFaultCondition s.cfg s.sc.take am = true ↔ still := by
    rw [speedFaultCondition_iff, w, ← vref, ← vrefState]
  have slip_iff : slipCondition s.cfg b (speedFaultStage s.cfg s.sc.take am) = true ↔ slip := by
    obtain ⟨vref₁, w₁, vrefState₁⟩ := speedFaultStage_sameSpeeds s.cfg s.sc.take am
    rw [slipCondition_iff, vref₁, w₁, vrefState₁, w, ← vref, ← vrefState]
  have clear_next (clear : (amNext s).faultFlag = false) :
      amNext s = limitStage s.cfg b (speedFaultStage s.cfg s.sc.take am)
        ∧ (speedFaultStage s.cfg s.sc.take am).limit = limit ∧ (speedFaultStage s.cfg s.sc.take am).rise = rise
        ∧ min 255 ((speedFaultStage s.cfg s.sc.take am).spacing + 1) = spacing := by
    rw [flag'] at clear
    refine ⟨next.trans (axleStages_of_clear clear), ?_, ?_, ?_⟩ <;> rw [speedFaultStage_of_clear clear]
    · rw [flag, limit_eq]
    · rw [flag, rise_eq]
    · rw [spacing_eq]
  have no_cut (clear : (amNext s).faultFlag = false) (no : ¬(slip ∧ 5 < spacing)) :
      amNext s = limitStage s.cfg b (speedFaultStage s.cfg s.sc.take am)
        ∧ ¬(slipCondition s.cfg b (speedFaultStage s.cfg s.sc.take am) = true
          ∧ 5 < min 255 ((speedFaultStage s.cfg s.sc.take am).spacing + 1)) := by
    obtain ⟨eq, -, -, apart⟩ := clear_next clear
    rw [apart, slip_iff]
    exact ⟨eq, no⟩
  refine ⟨?_, ?_, ?_, ?_, ?_, ?_, ?_, ?_, ?_, ?_⟩
  · intro clear fault long
    rw [← count] at long
    have declared := speedFaultStage_of_declared (flag.trans clear) (still_iff.mpr fault) long
    have set : (amNext s).faultFlag = true := by rw [flag', declared]
    refine ⟨set, by rw [count', declared], ?_, evaluateAdhesion_stx_of_declared axle clear set⟩
    rw [next, axleStages_of_set (by rw [declared]), declared]
  · intro clear fault short
    have counted := speedFaultStage_of_counted (flag.trans clear) (still_iff.mpr fault) (by omega)
    have off : (amNext s).faultFlag = false := by rw [flag', counted, flag, clear]
    exact ⟨off, by rw [count', counted, count],
      evaluateAdhesion_stx_of_not_declared axle fun ⟨_, set⟩ => absurd (off.symm.trans set) (by decide)⟩
  · intro clear sound
    have sound := speedFaultStage_of_sound (flag.trans clear) (still_iff.not.mpr sound)
    have off : (amNext s).faultFlag = false := by rw [flag', sound, flag, clear]
    exact ⟨off, by rw [count', sound],
      evaluateAdhesion_stx_of_not_declared axle fun ⟨_, set⟩ => absurd (off.symm.trans set) (by decide)⟩
  · intro set stands
    have stays := speedFaultStage_of_set (c := s.cfg) (take := s.sc.take) (flag.trans set) (w.trans stands)
    have on : (speedFaultStage s.cfg s.sc.take am).faultFlag = true := by rw [stays, flag, set]
    rw [next.trans (axleStages_of_set on), stays]
    exact ⟨flag.trans set, rfl, rise_eq, spacing_eq,
      evaluateAdhesion_stx_of_not_declared axle fun ⟨clear, _⟩ => absurd (clear.symm.trans set) (by decide)⟩
  · intro set turns
    rw [flag', speedFaultStage_of_pulse (flag.trans set) (turns.trans_eq w.symm)]
    exact ⟨rfl, evaluateAdhesion_stx_of_not_declared axle fun ⟨clear, _⟩ => absurd (clear.symm.trans set) (by decide)⟩
  · intro clear slips apart
    obtain ⟨eq, limit', -, apart'⟩ := clear_next clear
    rw [eq, limitStage_of_cut (slip_iff.mpr slips) (apart'.symm ▸ apart), limit']
    exact ⟨rfl, rfl, rfl⟩
  · intro clear no
    obtain ⟨eq, no'⟩ := no_cut clear no
    obtain ⟨-, -, -, apart⟩ := clear_next clear
    rw [eq, limitStage_spacing no', apart]
  · intro clear no waits
    obtain ⟨eq, no'⟩ := no_cut clear no
    obtain ⟨-, limit', rise', -⟩ := clear_next clear
    rw [eq, limitStage_of_no_cut no', if_pos (rise'.symm ▸ waits), limit', rise']
    exact ⟨rfl, rfl⟩
  · intro clear slips close zero
    obtain ⟨eq, no'⟩ := no_cut clear fun ⟨_, apart⟩ => absurd close (Nat.not_le.mpr apart)
    obtain ⟨-, limit', rise', -⟩ := clear_next clear
    rw [eq, limitStage_of_no_cut no', if_neg (by omega), if_pos (slip_iff.mpr slips)]
    exact ⟨limit', rise'.trans zero⟩
  · intro clear grips zero
    obtain ⟨eq, no'⟩ := no_cut clear fun ⟨slips, _⟩ => grips slips
    obtain ⟨-, limit', rise', -⟩ := clear_next clear
    rw [eq, limitStage_of_no_cut no', if_neg (by omega), if_neg (slip_iff.not.mpr grips), limit']
    exact ⟨rfl, rise'.trans zero⟩

end Sys2Proof.AdhesionMonitor
end

section
/-! PROOFS. The stages of a sink expiry (spec/07, 7.1): what each one does, and the expiry as a whole by the outcome of the range
check and of supervision. -/

namespace Sys2Proof.SinkExpiries

open Sys2Proof Sys2Proof.Machine Sys2Proof.Commands Sys2Proof.DemandAndCommand

/-! ### The windows and the temperature (R105, R123, R140) -/

/-- Stages 1 and 2: the windows closed and TEMP read. -/
def sensed (s : State) : State := s.closeWindows.temperatureStage

theorem sensed_kept_but (s : State) :
    sensed s = { s with
      cu := (sensed s).cu, am := s.closeWindows.am
      sc := { s.sc with tempHoldCount := (sensed s).sc.tempHoldCount, tempHold := (sensed s).sc.tempHold } } := by
  refine state_ext (by simp [sensed]) (by simp [sensed]) (by simp [sensed]) (by simp [sensed]) (by simp [sensed])
    (by simp [sensed]) (by simp [sensed]) (by simp [sensed]) rfl (by simp [sensed]) (by simp [sensed]) ?_ (by simp [sensed])
    (by simp [sensed]) (by simp [sensed])
  exact (temperatureStage_sc s.closeWindows).trans (by rw [closeWindows_sc]; rfl)

@[simp] theorem sensed_cfg (s : State) : (sensed s).cfg = s.cfg := by simp [sensed]

@[simp] theorem sensed_stc (s : State) : (sensed s).stc = s.stc := by simp [sensed]

@[simp] theorem sensed_inp (s : State) : (sensed s).inp = s.inp := by simp [sensed]

theorem sensed_sc (s : State) :
    (sensed s).sc
      = { s.sc with tempHoldCount := (sensed s).sc.tempHoldCount, tempHold := (sensed s).sc.tempHold } :=
  congrArg State.sc (sensed_kept_but s)

theorem sensed_degraded (s : State) : (sensed s).sc.degraded = s.sc.degraded := by rw [sensed_sc]

theorem closeWindows_of_retarder {s : State} (role : s.role = .retarder) : s.closeWindows = s := by
  rw [State.closeWindows, role]

theorem closeWindows_of_axle {s : State} (role : s.role = .axle) : s.closeWindows = s.setAm (amCloseWindow s.cfg s.am) := by
  rw [State.closeWindows, role]

theorem closeWindows_of_exhaust {s : State} (role : s.role = .exhaust) : s.closeWindows = s.setCu (cuCloseWindow s.cu) := by
  rw [State.closeWindows, role]

theorem temperatureStage_of_axle {s : State} (role : s.role = .axle) : s.temperatureStage = s := if_pos role

theorem temperatureStage_of_not_axle {s : State} (role : s.role ≠ .axle) :
    s.temperatureStage
      = (s.setSc (tempHoldNext s.cfg s.inp.temp.toNat s.sc)).setCu (codeStage s.cfg s.inp.temp.toNat s.cu) := if_neg role

/-- The temperature stage sets the code and the guard state of CU and no other (R109). -/
theorem codeStage_kept (c : Cfg) (r : Nat) (cu : Cu) :
    codeStage c r cu = { cu with code := (codeStage c r cu).code, guarded := (codeStage c r cu).guarded } := by
  unfold codeStage
  split <;> rfl

theorem temperatureStage_cu (s : State) :
    s.temperatureStage.cu
      = { s.cu with code := s.temperatureStage.cu.code, guarded := s.temperatureStage.cu.guarded } := by
  by_cases role : s.role = .axle
  · rw [temperatureStage_of_axle role]
  · rw [temperatureStage_of_not_axle role]
    exact codeStage_kept _ _ _

theorem sensed_cu (s : State) :
    (sensed s).cu
      = { s.closeWindows.cu with code := (sensed s).cu.code, guarded := (sensed s).cu.guarded } :=
  temperatureStage_cu s.closeWindows

/-- C formed from the inputs of this expiry (R108, R136): it reads the sink state and the temperature hold alone of SC. -/
theorem formed_cu (s : State) :
    (sensed s).formCapacity.cu = cuForm s.cfg s.closeWindows.am
      { s.sc with tempHoldCount := (sensed s).sc.tempHoldCount, tempHold := (sensed s).sc.tempHold }
      { s.closeWindows.cu with code := (sensed s).cu.code, guarded := (sensed s).cu.guarded } := by
  have am : (sensed s).am = s.closeWindows.am := by rw [sensed_kept_but]
  change cuForm (sensed s).cfg (sensed s).am (sensed s).sc (sensed s).cu = _
  rw [← sensed_cu, ← sensed_sc, sensed_cfg, am]

/-! ### The range check (R150) -/

/-- FB or the flap code in the range of a working sensor. -/
def InRange (s : State) : Prop :=
  if s.role = .exhaust then s.inp.pos.toNat ≤ s.cfg.loc.n else 10 ≤ s.inp.fb.toNat ∧ s.inp.fb.toNat ≤ 1013

theorem rangeFault_of_inRange {s : State} (inside : InRange s) : rangeFault s = .none := by
  unfold InRange at inside
  cases role : s.role with
  | exhaust =>
    rw [if_pos role] at inside
    simp only [rangeFault, role, if_neg (Nat.not_lt.mpr inside)]
  | retarder | axle =>
    rw [if_neg (by simp [role])] at inside
    simp only [rangeFault, role, (DemandUnit.readingValid_iff _).mpr inside, if_true]

theorem rangeFault_of_exhaust {s : State} (outside : ¬InRange s) (role : s.role = .exhaust) :
    rangeFault s = .positionRange := by
  rw [InRange, if_pos role] at outside
  simp only [rangeFault, role, if_pos (Nat.not_le.mp outside)]

theorem rangeFault_of_not_exhaust {s : State} (outside : ¬InRange s) (role : s.role ≠ .exhaust) :
    rangeFault s = .feedbackRange := by
  rw [InRange, if_neg role, ← DemandUnit.readingValid_iff] at outside
  cases other : s.role with
  | exhaust => exact absurd other role
  | retarder | axle => simp only [rangeFault, other, if_neg outside]

theorem rangeFault_ne_none {s : State} (outside : ¬InRange s) : rangeFault s ≠ .none := by
  by_cases role : s.role = .exhaust
  · rw [rangeFault_of_exhaust outside role]
    decide
  · rw [rangeFault_of_not_exhaust outside role]
    decide

theorem inRange_sensed (s : State) : InRange (sensed s) ↔ InRange s := by
  rw [InRange, State.role, sensed_cfg, sensed_inp]
  rfl

theorem feedbackStage_of_fault {s : State} (normal : s.sc.degraded = false) (outside : ¬InRange s) :
    s.feedbackStage = s.degrade (rangeFault s) := if_pos ⟨normal, rangeFault_ne_none outside⟩

theorem feedbackStage_of_inRange {s : State} (inside : InRange s) : s.feedbackStage = s :=
  if_neg fun fault => fault.2 (rangeFault_of_inRange inside)

theorem feedbackStage_of_degraded {s : State} (degraded : s.sc.degraded = true) : s.feedbackStage = s :=
  if_neg fun fault => by simp [degraded] at fault

/-! ### The take (R137, R138) -/

theorem takeOf_of_exhaust {s : State} (role : s.role = .exhaust) :
    takeOf s = positionTake s.cfg.loc.n (s.cu.capacity / s.cfg.loc.n) s.inp.pos.toNat := by
  simp only [takeOf, role]
  rfl

theorem takeOf_of_not_exhaust {s : State} (role : s.role ≠ .exhaust) : takeOf s = feedbackTake s.cfg s.inp.fb.toNat := by
  unfold takeOf
  cases other : s.role with
  | exhaust => exact absurd other role
  | retarder | axle => rfl

/-- The take of readings in range. -/
theorem takeOf_of_inRange {s : State} (inside : InRange s) :
    takeOf s =
      if s.role = .exhaust then s.inp.pos.toNat * (s.cu.capacity / s.cfg.loc.n)
      else min 2047 ((s.inp.fb.toNat - min s.cfg.loc.fbZero 1023) * s.cfg.loc.fbGain / 256) := by
  unfold InRange at inside
  by_cases role : s.role = .exhaust
  · rw [if_pos role] at inside ⊢
    rw [takeOf_of_exhaust role, positionTake, if_pos inside]
  · rw [if_neg role] at inside ⊢
    rw [takeOf_of_not_exhaust role, feedbackTake, if_pos ((DemandUnit.readingValid_iff _).mpr inside)]
    rfl

theorem takeOf_of_outside {s : State} (outside : ¬InRange s) : takeOf s = 0 := by
  by_cases role : s.role = .exhaust
  · rw [InRange, if_pos role] at outside
    rw [takeOf_of_exhaust role, positionTake, if_neg outside]
  · rw [InRange, if_neg role, ← DemandUnit.readingValid_iff] at outside
    rw [takeOf_of_not_exhaust role, feedbackTake, if_neg outside]

/-- With C = 0 no flap position takes anything. -/
theorem takeOf_of_no_capacity {s : State} (role : s.role = .exhaust) (none : s.cu.capacity = 0) : takeOf s = 0 := by
  rw [takeOf_of_exhaust role, none, Nat.zero_div, positionTake, Nat.mul_zero, ite_self]

/-! ### Supervision (R149) -/

theorem mismatch_eq (t c : Nat) : (mismatch t c : Int) = |(t : Int) - c| := by
  unfold mismatch
  obtain le | le := Nat.le_total t c
  · rw [abs_of_nonpos (by omega)]
    omega
  · rw [abs_of_nonneg (by omega)]
    omega

theorem mismatch_le_iff (c : Cfg) (take command : Nat) :
    mismatch take command ≤ supTolUsed c ↔ |(take : Int) - command| ≤ min c.loc.supTol 2047 := by
  rw [← mismatch_eq]
  exact_mod_cast Iff.rfl

section
variable {s : State}

/-- The supervision count of this expiry. -/
def supCounted (s : State) : Nat := supCountNext s.cfg (mismatch s.sc.take (windowCommand s)) s.sc.supCount

theorem supervisionStage_of_degraded (degraded : s.sc.degraded = true) :
    s.supervisionStage = s.setSc { s.sc with supCount := 0 } := if_pos degraded

theorem supervisionStage_of_tolerated (normal : s.sc.degraded = false) (few : supCounted s < supPeriodsUsed s.cfg) :
    s.supervisionStage = s.setSc { s.sc with supCount := supCounted s } := by
  rw [State.supervisionStage, if_neg (by simp [normal])]
  exact if_neg (Nat.not_le.mpr few)

theorem supervisionStage_of_fault (normal : s.sc.degraded = false) (many : supPeriodsUsed s.cfg ≤ supCounted s) :
    s.supervisionStage = ((s.setSc { s.sc with supCount := supCounted s }).degrade .tolerance).formCapacity := by
  rw [State.supervisionStage, if_neg (by simp [normal])]
  exact if_pos many

/-! ### The command (R142, R151) -/

theorem commandNext_of_degraded (degraded : s.sc.degraded = true) :
    commandNext s
      = if s.role = .exhaust then { s.sc with kNow := 0, riseHold := 0, c := 0 } else { s.sc with c := 0 } := by
  have step : exhaustStep s = (0, 0) := exhaustStep_of_not_normal fun normal => by simp [degraded] at normal
  rw [commandNext, step, commandTarget_of_degraded degraded, slew_zero, Nat.zero_mul]

end

/-! ### The expiry by its outcome (R136, R149 to R152) -/

/-- Stages 4 to 6 with the sink in order: C formed, the take measured and the count set. -/
def tolerated (s : State) : State :=
  let m := (sensed s).formCapacity.takeStage
  m.setSc { m.sc with supCount := supCounted m }

/-- What supervision compares at this expiry: the take and the command of the window just closed. -/
theorem supCounted_measured (s : State) :
    supCounted (sensed s).formCapacity.takeStage
      = supCountNext s.cfg
        (mismatch (takeOf (sensed s).formCapacity)
          (if s.role = .exhaust then s.sc.kNow * ((sensed s).formCapacity.cu.capacity / s.cfg.loc.n) else s.sc.c))
        s.sc.supCount := by
  have sc := sensed_sc s
  have role : (sensed s).formCapacity.takeStage.role = s.role := by
    rw [State.role, takeStage_cfg, formCapacity_cfg, sensed_cfg]
    rfl
  have kNow : (sensed s).sc.kNow = s.sc.kNow := by rw [sc]
  have command : (sensed s).sc.c = s.sc.c := by rw [sc]
  have count : (sensed s).sc.supCount = s.sc.supCount := by rw [sc]
  change supCountNext _ (mismatch _ (if _ then (sensed s).sc.kNow * (_ / _) else (sensed s).sc.c)) (sensed s).sc.supCount = _
  rw [role, kNow, command, count, takeStage_cfg, formCapacity_cfg, sensed_cfg]
  rfl

/-- The take of an expiry with its reading in range, measured with the capacity of this expiry. -/
theorem takeOf_measured {s : State} (inside : InRange s) :
    takeOf (sensed s).formCapacity =
      if s.role = .exhaust then s.inp.pos.toNat * ((sensed s).formCapacity.cu.capacity / s.cfg.loc.n)
      else min 2047 ((s.inp.fb.toNat - min s.cfg.loc.fbZero 1023) * s.cfg.loc.fbGain / 256) := by
  rw [takeOf_of_inRange (s := (sensed s).formCapacity) ((inRange_sensed s).mpr inside), State.role, formCapacity_cfg,
    formCapacity_inp, sensed_cfg, sensed_inp]
  rfl

theorem tolerated_kept_but (s : State) :
    tolerated s = { s with
      cu := (sensed s).formCapacity.cu, am := s.closeWindows.am
      sc := { s.sc with
        take := takeOf (sensed s).formCapacity, supCount := supCounted (sensed s).formCapacity.takeStage
        tempHoldCount := (sensed s).sc.tempHoldCount, tempHold := (sensed s).sc.tempHold } } := by
  have kept := sensed_kept_but s
  change { sensed s with
    cu := (sensed s).formCapacity.cu
    sc := { (sensed s).sc with
      take := takeOf (sensed s).formCapacity, supCount := supCounted (sensed s).formCapacity.takeStage } } = _
  refine state_ext ?_ ?_ ?_ ?_ ?_ ?_ ?_ ?_ rfl ?_ ?_ ?_ ?_ ?_ ?_ <;> rw [kept]

theorem sinkStages_of_tolerated {s : State} (normal : s.sc.degraded = false) (inside : InRange s)
    (few : supCounted (sensed s).formCapacity.takeStage < supPeriodsUsed s.cfg) :
    s.sinkStages = (tolerated s).commandStage := by
  have normal' : (sensed s).formCapacity.takeStage.sc.degraded = false := by
    exact (sensed_degraded s).trans normal
  have few' : supCounted (sensed s).formCapacity.takeStage < supPeriodsUsed (sensed s).formCapacity.takeStage.cfg := by
    rwa [takeStage_cfg, formCapacity_cfg, sensed_cfg]
  change ((sensed s).feedbackStage.formCapacity.takeStage.supervisionStage).commandStage = _
  rw [feedbackStage_of_inRange ((inRange_sensed s).mpr inside), supervisionStage_of_tolerated normal' few']
  rfl

/-- Stages 6 and 7 of a DEGRADED sink, after its take. -/
def released (m : State) : State := (m.setSc { m.sc with supCount := 0 }).commandStage

theorem sinkStages_of_degraded {s : State} (degraded : s.sc.degraded = true) :
    s.sinkStages = released (sensed s).formCapacity.takeStage := by
  have degraded' : (sensed s).sc.degraded = true := (sensed_degraded s).trans degraded
  change ((sensed s).feedbackStage.formCapacity.takeStage.supervisionStage).commandStage = _
  rw [feedbackStage_of_degraded degraded', supervisionStage_of_degraded (s := (sensed s).formCapacity.takeStage) degraded']
  rfl

theorem sinkStages_of_rangeFault {s : State} (normal : s.sc.degraded = false) (outside : ¬InRange s) :
    s.sinkStages = released ((sensed s).degrade (rangeFault (sensed s))).formCapacity.takeStage := by
  have normal' : (sensed s).sc.degraded = false := (sensed_degraded s).trans normal
  have degraded : ((sensed s).degrade (rangeFault (sensed s))).formCapacity.takeStage.sc.degraded = true :=
    congrArg Sc.degraded (degrade_sc (rangeFault (sensed s)) (sensed s))
  change ((sensed s).feedbackStage.formCapacity.takeStage.supervisionStage).commandStage = _
  rw [feedbackStage_of_fault normal' ((inRange_sensed s).not.mpr outside), supervisionStage_of_degraded degraded]
  rfl

theorem sinkStages_of_outOfTolerance {s : State} (normal : s.sc.degraded = false) (inside : InRange s)
    (many : supPeriodsUsed s.cfg ≤ supCounted (sensed s).formCapacity.takeStage) :
    s.sinkStages = ((tolerated s).degrade .tolerance).formCapacity.commandStage := by
  have many' : supPeriodsUsed (sensed s).formCapacity.takeStage.cfg ≤ supCounted (sensed s).formCapacity.takeStage := by
    rwa [takeStage_cfg, formCapacity_cfg, sensed_cfg]
  change ((sensed s).feedbackStage.formCapacity.takeStage.supervisionStage).commandStage = _
  rw [feedbackStage_of_inRange ((inRange_sensed s).mpr inside),
    supervisionStage_of_fault (s := (sensed s).formCapacity.takeStage) ((sensed_degraded s).trans normal) many']
  rfl

end Sys2Proof.SinkExpiries
end

section
/-! PROOFS. SINK_EXPIRY with the sink NORMAL, of a proportional sink and of an EXHAUST station (spec/07, 7.2 to 7.6). -/

namespace Sys2Proof.NormalSink

open Sys2Proof Sys2Proof.Machine Sys2Proof.Commands Sys2Proof.DemandAndCommand Sys2Proof.SinkExpiries Sys2Proof.ValidFrames

theorem work_sinkExpiry {s : State} (op : operating s.stc.state = true) (fb temp : BitVec 10) (pos : BitVec 3) :
    work (.sinkExpiry fb temp pos) s = (s.latchSink fb temp pos).sinkStages := if_pos op

/-! ### The supervision count of a sink in order (R149) -/

theorem supCountNext_of_within {c : Cfg} {m : Nat} (within : m ≤ supTolUsed c) (count : Nat) : supCountNext c m count = 0 :=
  if_pos within

theorem supCountNext_of_off {c : Cfg} {m : Nat} (off : ¬m ≤ supTolUsed c) (count : Nat) :
    supCountNext c m count = min 255 (count + 1) := if_neg off

theorem supCountNext_few {c : Cfg} {m count : Nat}
    (few : m ≤ supTolUsed c ∨ min 255 (count + 1) < max 1 c.loc.supPeriods) :
    supCountNext c m count < supPeriodsUsed c := by
  by_cases within : m ≤ supTolUsed c
  · rw [supCountNext_of_within within]
    exact Nat.lt_of_lt_of_le Nat.zero_lt_one (Nat.le_max_left _ _)
  · rw [supCountNext_of_off within]
    exact few.resolve_left within

/-! ### The command of a proportional sink (R142 to R145) -/

theorem slew_of_le {c : Cfg} {target command : Nat} (down : target ≤ command) : slew c target command = target := if_pos down

theorem slew_of_lt {c : Cfg} {target command : Nat} (up : command < target) :
    slew c target command = min target (command + min c.loc.slewUp 2047) := if_neg (Nat.not_le.mpr up)

theorem commandNext_of_not_exhaust {s : State} (role : s.role ≠ .exhaust) :
    commandNext s = { s.sc with c := slew s.cfg (commandTarget s) s.sc.c } := if_neg role

theorem commandTarget_of_active {s : State} (normal : s.sc.degraded = false) (active : s.stc.state = .active) :
    commandTarget s = s.pe.plan.share := by
  rw [commandTarget, if_neg (by simp [normal]), active]

theorem commandTarget_of_local {s : State} (normal : s.sc.degraded = false) (localOnly : s.stc.state = .localOnly) :
    commandTarget s = fallbackTarget s := by
  rw [commandTarget, if_neg (by simp [normal]), localOnly]

theorem driveCode_of_pos {c : Cfg} {command : Nat} (driven : 0 < command) :
    driveCode c command = min 1023 (min c.loc.fbZero 1023 + (command * 256 + c.loc.fbGain - 1) / c.loc.fbGain) :=
  if_neg (Nat.pos_iff_ne_zero.mp driven)

theorem driveOutput_of_not_exhaust {s : State} (role : s.role ≠ .exhaust) : driveOutput s = driveCode s.cfg s.sc.c :=
  if_neg role

theorem drive_toNat {s : State} (driven : 0 < s.sc.c) (role : s.role ≠ .exhaust) :
    (BitVec.ofNat 10 (driveOutput s)).toNat
      = min 1023 (min s.cfg.loc.fbZero 1023 + (s.sc.c * 256 + s.cfg.loc.fbGain - 1) / s.cfg.loc.fbGain) := by
  rw [driveOutput_of_not_exhaust role, driveCode_of_pos driven, BitVec.toNat_ofNat, Nat.mod_eq_of_lt]
  exact Nat.lt_of_le_of_lt (Nat.min_le_left _ _) (by decide)

/-! ### The wheel window (R123) -/

theorem amCloseWindow_of_open {c : Cfg} {am : Am} (opened : am.windowOpen = true) :
    amCloseWindow c am = { am with w := min 511 (am.pulses * c.loc.wheelScale / 256), pulses := 0, woken := false } :=
  if_pos opened

theorem amCloseWindow_of_closed {c : Cfg} {am : Am} (closed : am.windowOpen = false) :
    amCloseWindow c am = { am with pulses := 0, windowOpen := true } := if_neg (by simp [closed])

theorem closeWindows_am_of_axle {s : State} (axle : s.role = .axle) : s.closeWindows.am = amCloseWindow s.cfg s.am := by
  rw [closeWindows_of_axle axle]
  rfl

theorem closeWindows_am_of_not_axle {s : State} (role : s.role ≠ .axle) : s.closeWindows.am = s.am := by
  cases other : s.role with
  | axle => exact absurd other role
  | retarder => rw [closeWindows_of_retarder other]
  | exhaust =>
    rw [closeWindows_of_exhaust other]
    rfl

theorem closeWindows_cu_of_not_exhaust {s : State} (role : s.role ≠ .exhaust) : s.closeWindows.cu = s.cu := by
  cases other : s.role with
  | exhaust => exact absurd other role
  | retarder => rw [closeWindows_of_retarder other]
  | axle =>
    rw [closeWindows_of_axle other]
    rfl

/-! ### A proportional sink in order -/

theorem tolerated_role (u : State) : (tolerated u).role = u.role := by
  rw [tolerated_kept_but]
  rfl

/-- What the expiry of a proportional sink in order leaves. -/
theorem sinkStages_of_proportional {u : State} (role : u.role ≠ .exhaust) (normal : u.sc.degraded = false)
    (inside : InRange u) (few : supCounted (sensed u).formCapacity.takeStage < supPeriodsUsed u.cfg) :
    u.sinkStages = { u with
      cu := (sensed u).formCapacity.cu, am := u.closeWindows.am
      sc := { u.sc with
        c := slew u.cfg (commandTarget (tolerated u)) u.sc.c, take := takeOf (sensed u).formCapacity
        supCount := supCounted (sensed u).formCapacity.takeStage
        tempHoldCount := (sensed u).sc.tempHoldCount, tempHold := (sensed u).sc.tempHold } } := by
  rw [sinkStages_of_tolerated normal inside few, State.commandStage,
    commandNext_of_not_exhaust ((tolerated_role u).trans_ne role)]
  generalize commandTarget (tolerated u) = target
  rw [tolerated_kept_but]
  rfl

/-- The target of a proportional sink in order (R142, R144). -/
theorem commandTarget_tolerated {u : State} (normal : u.sc.degraded = false) :
    commandTarget (tolerated u) =
      match u.stc.state with
      | .active => u.pe.plan.share
      | .localOnly =>
        if u.role = .axle ∧ u.isSource = true then
          min (u.du.own * u.cfg.loc.weight / 100) (min (sensed u).formCapacity.cu.capacity u.am.limit)
        else 0
      | _ => 0 := by
  have normal' : (tolerated u).sc.degraded = false := by
    rw [tolerated_kept_but]
    exact normal
  have state' : (tolerated u).stc.state = u.stc.state := by rw [tolerated_kept_but]
  cases state : u.stc.state with
  | active =>
    rw [commandTarget_of_active normal' (state'.trans state), tolerated_kept_but]
  | localOnly =>
    rw [commandTarget_of_local normal' (state'.trans state), fallbackTarget, tolerated_kept_but,
      (AdhesionRange.closeWindows_limit u).1]
    rfl
  | config | listen | leaving | parked | fault =>
    exact commandTarget_of_released (by rw [state', state]; decide) (by rw [state', state]; decide)

/-- Settles O43: the stages one after another, with the command slewed to its target. -/
theorem proportionalSinkExpiry : Obligations.ProportionalSinkExpiry := by
  intro s fb temp pos op role normal low high zeroCode gain take within few
  let u := s.latchSink fb temp pos
  have inside : InRange u := by
    rw [InRange, if_neg (show u.role ≠ .exhaust from role)]
    exact ⟨low, high⟩
  have taken : takeOf (sensed u).formCapacity = take := (takeOf_measured inside).trans (if_neg role)
  have counted : supCounted (sensed u).formCapacity.takeStage = supCountNext s.cfg (mismatch take s.sc.c) s.sc.supCount := by
    rw [supCounted_measured, taken, if_neg (show u.role ≠ .exhaust from role)]
    rfl
  have within_iff : mismatch take s.sc.c ≤ supTolUsed s.cfg ↔ within := mismatch_le_iff s.cfg take s.sc.c
  have stages := sinkStages_of_proportional (u := u) role normal inside
    (counted.trans_lt (supCountNext_few (few.imp_left within_iff.mpr)))
  refine ⟨_, exec_of_work ((work_sinkExpiry op fb temp pos).trans stages), ?_, ?_, ?_, ?_, ?_, ?_, ?_, ?_, ?_, ?_, ?_⟩
  · rw [taken]
    rfl
  · intro holds
    exact counted.trans (supCountNext_of_within (within_iff.mpr holds) _)
  · intro fails
    exact counted.trans (supCountNext_of_off (within_iff.not.mpr fails) _)
  · refine (formed_cu u).trans ?_
    rw [closeWindows_cu_of_not_exhaust (s := u) role]
    rfl
  · intro target
    have target_eq : commandTarget (tolerated u) = target := commandTarget_tolerated normal
    refine ⟨fun down => ?_, fun up => ?_⟩
    · rw [← target_eq] at down ⊢
      exact slew_of_le down
    · rw [← target_eq] at up ⊢
      exact slew_of_lt up
  · intro zero
    exact congrArg (BitVec.ofNat 10) (driveOutput_of_released zero)
  · intro driven
    exact drive_toNat driven role
  · exact congrArg (BitVec.ofNat 3) (if_neg role)
  · intro retarder
    exact closeWindows_am_of_not_axle (s := u) (show s.role ≠ .axle by rw [retarder]; decide)
  · intro axle opened
    exact (closeWindows_am_of_axle (s := u) axle).trans (amCloseWindow_of_open opened)
  · intro axle closed
    exact (closeWindows_am_of_axle (s := u) axle).trans (amCloseWindow_of_closed closed)

/-! ### The step of an EXHAUST station (R146, R147) -/

theorem stepHoldNext_le (c : Cfg) (kPlan kNow count : Nat) : (stepHoldNext c kPlan kNow count).1 ≤ kPlan := by
  unfold stepHoldNext
  split
  · exact le_rfl
  · split
    · next equal => exact equal.ge
    · split
      · dsimp only
        omega
      · dsimp only
        omega

/-- The correction lowers the step to what fits in the share, and only then changes it. -/
theorem stepCorrection_bounds (step share : Nat) (x : Nat × Nat) :
    (stepCorrection step share x).1 ≤ x.1 ∧ (stepCorrection step share x).1 * step ≤ share := by
  unfold stepCorrection
  split
  · next exceeds =>
    exact ⟨(Nat.div_lt_of_lt_mul (by rw [Nat.mul_comm]; exact exceeds.2)).le, Nat.div_mul_le_self share step⟩
  · next fits =>
    refine ⟨le_rfl, ?_⟩
    obtain zero | positive := Nat.eq_zero_or_pos step
    · rw [zero]
      exact Nat.zero_le _
    · exact Nat.not_lt.mp fun exceeds => fits ⟨positive, exceeds⟩

theorem commandNext_of_exhaust {s : State} (role : s.role = .exhaust) :
    commandNext s
      = { s.sc with kNow := (exhaustStep s).1, riseHold := (exhaustStep s).2, c := (exhaustStep s).1 * s.ownStep } :=
  if_pos role

theorem closeWindows_cu_of_exhaust {s : State} (role : s.role = .exhaust) : s.closeWindows.cu = cuCloseWindow s.cu := by
  rw [closeWindows_of_exhaust role]
  rfl

/-- What the expiry of an EXHAUST station in order leaves. -/
theorem sinkStages_of_exhaust {u : State} (role : u.role = .exhaust) (normal : u.sc.degraded = false) (inside : InRange u)
    (few : supCounted (sensed u).formCapacity.takeStage < supPeriodsUsed u.cfg) :
    u.sinkStages = { u with
      cu := (sensed u).formCapacity.cu
      sc := { u.sc with
        kNow := (exhaustStep (tolerated u)).1, riseHold := (exhaustStep (tolerated u)).2
        c := (exhaustStep (tolerated u)).1 * ((sensed u).formCapacity.cu.capacity / u.cfg.loc.n)
        take := takeOf (sensed u).formCapacity, supCount := supCounted (sensed u).formCapacity.takeStage
        tempHoldCount := (sensed u).sc.tempHoldCount, tempHold := (sensed u).sc.tempHold } } := by
  have am : u.closeWindows.am = u.am := closeWindows_am_of_not_axle (by rw [role]; decide)
  rw [sinkStages_of_tolerated normal inside few, State.commandStage, commandNext_of_exhaust ((tolerated_role u).trans role)]
  generalize exhaustStep (tolerated u) = step
  rw [tolerated_kept_but, am]
  rfl

/-- The step in force of an EXHAUST station in order (R146, R147). -/
theorem exhaustStep_tolerated {u : State} (normal : u.sc.degraded = false) (active : u.stc.state = .active) :
    exhaustStep (tolerated u)
      = stepCorrection ((sensed u).formCapacity.cu.capacity / u.cfg.loc.n) u.pe.plan.share
        (stepHoldNext u.cfg u.pe.plan.step u.sc.kNow u.sc.riseHold) := by
  rw [exhaustStep, tolerated_kept_but]
  exact if_pos ⟨active, normal⟩

theorem exhaustStep_tolerated_of_not_active {u : State} (other : u.stc.state ≠ .active) :
    exhaustStep (tolerated u) = (0, 0) := by
  have state : (tolerated u).stc.state = u.stc.state := by rw [tolerated_kept_but]
  exact exhaustStep_of_not_normal fun normal => other (state.symm.trans normal.1)

/-- Settles O44: the stages one after another, with the step held, corrected and bounded. -/
theorem exhaustSinkExpiry : Obligations.ExhaustSinkExpiry := by
  intro s fb temp pos op role normal low formed step take within few k hold held
  let u := s.latchSink fb temp pos
  have inside : InRange u := by
    rw [InRange, if_pos (show u.role = .exhaust from role)]
    exact low
  have taken : takeOf (sensed u).formCapacity = take := (takeOf_measured inside).trans (if_pos role)
  have counted : supCounted (sensed u).formCapacity.takeStage
      = supCountNext s.cfg (mismatch take (s.sc.kNow * step)) s.sc.supCount := by
    rw [supCounted_measured, taken, if_pos (show u.role = .exhaust from role)]
    rfl
  have within_iff : mismatch take (s.sc.kNow * step) ≤ supTolUsed s.cfg ↔ within :=
    mismatch_le_iff s.cfg take (s.sc.kNow * step)
  have stages := sinkStages_of_exhaust (u := u) role normal inside
    (counted.trans_lt (supCountNext_few (few.imp_left within_iff.mpr)))
  have window := closeWindows_cu_of_exhaust (s := u) role
  have speed : formed.engSpeed = (cuCloseWindow s.cu).engSpeed := by
    change (sensed u).cu.engSpeed = _
    rw [sensed_cu, window]
    rfl
  refine ⟨_, exec_of_work ((work_sinkExpiry op fb temp pos).trans stages), ?_, ?_, ?_, ?_, ?_, ?_, ?_, ?_, ?_, ?_⟩
  · rw [taken]
    rfl
  · intro holds
    exact counted.trans (supCountNext_of_within (within_iff.mpr holds) _)
  · intro fails
    exact counted.trans (supCountNext_of_off (within_iff.not.mpr fails) _)
  · refine (formed_cu u).trans ?_
    rw [window, closeWindows_am_of_not_axle (s := u) (show s.role ≠ .axle by rw [role]; decide), speed]
    rfl
  · intro opened
    exact speed.trans (if_pos opened)
  · intro closed
    exact speed.trans (if_neg (by simp [closed]))
  · intro active
    have stepped : exhaustStep (tolerated u) = stepCorrection step s.pe.plan.share held :=
      exhaustStep_tolerated (u := u) normal active
    obtain ⟨lower, fits⟩ := stepCorrection_bounds step s.pe.plan.share held
    rw [← stepped] at lower fits
    exact ⟨stepped, lower.trans (stepHoldNext_le s.cfg k s.sc.kNow s.sc.riseHold), fits⟩
  · intro other
    have zero := exhaustStep_tolerated_of_not_active (u := u) other
    exact ⟨congrArg Prod.fst zero, congrArg Prod.snd zero⟩
  · exact congrArg (BitVec.ofNat 3) (if_pos role)
  · exact congrArg (BitVec.ofNat 10) (if_pos role)

end Sys2Proof.NormalSink
end

section
/-! PROOFS. The temperature stage of a sink expiry, and how the sink becomes DEGRADED (spec/07, 7.3 and 7.7). -/

namespace Sys2Proof.SinkFaults

open Sys2Proof Sys2Proof.Machine Sys2Proof.Commands Sys2Proof.DemandAndCommand Sys2Proof.SinkExpiries Sys2Proof.NormalSink
  Sys2Proof.StartOfWork Sys2Proof.ValidFrames

/-! ### What stages 3 to 7 keep of the temperature -/

/-- The same hold, the same code and the same guard state. -/
def SameTemperature (s t : State) : Prop :=
  t.sc.tempHoldCount = s.sc.tempHoldCount ∧ t.sc.tempHold = s.sc.tempHold ∧ t.cu.code = s.cu.code
    ∧ t.cu.guarded = s.cu.guarded

theorem sameTemperature_refl (s : State) : SameTemperature s s := ⟨rfl, rfl, rfl, rfl⟩

theorem sameTemperature_trans {s t u : State} (h : SameTemperature s t) (h' : SameTemperature t u) : SameTemperature s u := by
  obtain ⟨count, hold, code, guarded⟩ := h
  obtain ⟨count', hold', code', guarded'⟩ := h'
  exact ⟨count'.trans count, hold'.trans hold, code'.trans code, guarded'.trans guarded⟩

theorem degrade_sameTemperature (cause : DegradedCause) (s : State) : SameTemperature s (s.degrade cause) := by
  rw [SameTemperature, degrade_sc, degrade_cu]
  exact ⟨rfl, rfl, rfl, rfl⟩

theorem feedbackStage_sameTemperature (s : State) : SameTemperature s s.feedbackStage := by
  unfold State.feedbackStage
  split
  · exact degrade_sameTemperature _ s
  · exact sameTemperature_refl s

theorem supervisionStage_sameTemperature (s : State) : SameTemperature s s.supervisionStage := by
  unfold State.supervisionStage
  split
  · exact sameTemperature_refl s
  · simp only []
    split
    · exact degrade_sameTemperature .tolerance (s.setSc { s.sc with supCount := supCounted s })
    · exact sameTemperature_refl s

theorem commandStage_sameTemperature (s : State) : SameTemperature s s.commandStage := by
  unfold State.commandStage commandNext
  split <;> exact ⟨rfl, rfl, rfl, rfl⟩

theorem sinkStages_sameTemperature (s : State) : SameTemperature (sensed s) s.sinkStages := by
  have first := feedbackStage_sameTemperature (sensed s)
  have second := supervisionStage_sameTemperature (sensed s).feedbackStage.formCapacity.takeStage
  have third := commandStage_sameTemperature (sensed s).feedbackStage.formCapacity.takeStage.supervisionStage
  exact sameTemperature_trans (sameTemperature_trans first second) third

/-! ### C = 0 while DEGRADED or under the temperature hold (R107) -/

/-- No capacity where R107 leaves none to a sink. -/
def ShutCapacity (s : State) : Prop := s.sc.degraded = true ∨ s.sc.tempHold = true → s.cu.capacity = 0

theorem shutCapacity_formCapacity (s : State) : ShutCapacity s.formCapacity :=
  fun shut => Capacities.advertised_zero (shut.imp_right .inl)

theorem shutCapacity_supervisionStage {s : State} (h : ShutCapacity s) : ShutCapacity s.supervisionStage := by
  unfold State.supervisionStage
  split
  · exact h
  · simp only []
    split
    · exact shutCapacity_formCapacity _
    · exact h

theorem shutCapacity_sinkStages (s : State) : ShutCapacity s.sinkStages := by
  have measured : ShutCapacity (sensed s).feedbackStage.formCapacity.takeStage :=
    shutCapacity_formCapacity (sensed s).feedbackStage
  have supervised := shutCapacity_supervisionStage measured
  intro shut
  obtain ⟨-, hold, -, -⟩ := commandStage_sameTemperature (sensed s).feedbackStage.formCapacity.takeStage.supervisionStage
  obtain ⟨degraded, -⟩ := commandNext_sink_state (sensed s).feedbackStage.formCapacity.takeStage.supervisionStage
  exact supervised (shut.imp degraded.symm.trans hold.symm.trans)

/-! ### The temperature stage (R109, R112, R140) -/

theorem sensed_of_axle {s : State} (axle : s.role = .axle) : sensed s = s.closeWindows :=
  temperatureStage_of_axle (by rw [State.role, closeWindows_cfg]; exact axle)

theorem sensed_of_not_axle {s : State} (role : s.role ≠ .axle) :
    (sensed s).sc = tempHoldNext s.cfg s.inp.temp.toNat s.sc
      ∧ (sensed s).cu = codeStage s.cfg s.inp.temp.toNat s.closeWindows.cu := by
  have role' : s.closeWindows.role ≠ .axle := by
    rw [State.role, closeWindows_cfg]
    exact role
  rw [sensed, temperatureStage_of_not_axle role', closeWindows_cfg, closeWindows_inp, closeWindows_sc]
  exact ⟨rfl, rfl⟩

theorem closeWindows_code (s : State) :
    s.closeWindows.cu.code = s.cu.code ∧ s.closeWindows.cu.guarded = s.cu.guarded := by
  by_cases role : s.role = .exhaust
  · rw [closeWindows_cu_of_exhaust role]
    exact ⟨rfl, rfl⟩
  · rw [closeWindows_cu_of_not_exhaust role]
    exact ⟨rfl, rfl⟩

theorem tempHoldNext_of_valid {c : Cfg} {r : Nat} (valid : readingValid r = true) (sc : Sc) :
    tempHoldNext c r sc = { sc with tempHoldCount := 0, tempHold := false } := if_pos valid

theorem tempHoldNext_of_invalid {c : Cfg} {r : Nat} (invalid : ¬readingValid r = true) (sc : Sc) :
    tempHoldNext c r sc = { sc with
      tempHoldCount := min 255 (sc.tempHoldCount + 1)
      tempHold := sc.tempHold || c.loc.sensorHold < sc.tempHoldCount + 1 } := if_neg invalid

theorem codeStage_of_valid {c : Cfg} {r : Nat} (valid : readingValid r = true) (cu : Cu) :
    codeStage c r cu = { cu with code := some (tempCode c r), guarded := guardNext c cu.guarded (tempCode c r) } :=
  if_pos valid

theorem codeStage_of_invalid {c : Cfg} {r : Nat} (invalid : ¬readingValid r = true) (cu : Cu) : codeStage c r cu = cu :=
  if_neg invalid

theorem clampNat_cast_of_half (x : Int) : (clampNat x 65535 : Int) = max 0 (min 65535 x) := by
  unfold clampNat
  omega

theorem tempCode_cast (c : Cfg) (r : Nat) :
    (tempCode c r : Int) = max 0 (min 65535 (c.loc.tempOffset + (r * c.loc.tempScale / 16 : Nat))) :=
  clampNat_cast_of_half _

/-- Settles O45: the stage itself, and what the later stages keep of it. -/
theorem temperatureSensorHold : Obligations.TemperatureSensorHold := by
  intro s fb temp pos op valid code
  let u := s.latchSink fb temp pos
  have worked : work (.sinkExpiry fb temp pos) s = u.sinkStages := work_sinkExpiry op fb temp pos
  have valid_iff : readingValid u.inp.temp.toNat = true ↔ valid := DemandUnit.readingValid_iff _
  obtain ⟨count, hold, code', guarded⟩ := sinkStages_sameTemperature u
  obtain ⟨closedCode, closedGuard⟩ := closeWindows_code u
  refine ⟨_, exec_of_work worked, ?_, ?_, ?_, ?_⟩
  all_goals simp only [drivePins_sc, drivePins_cu]
  · intro role read
    obtain ⟨sc, cu⟩ := sensed_of_not_axle (s := u) role
    rw [tempHoldNext_of_valid (valid_iff.mpr read)] at sc
    rw [codeStage_of_valid (valid_iff.mpr read), closedGuard] at cu
    rw [count, hold, code', guarded, sc, cu]
    have cast : (tempCode u.cfg temp.toNat : Int) = code := tempCode_cast s.cfg temp.toNat
    refine ⟨rfl, rfl, congrArg some cast, fun off => ?_, fun on => ?_⟩
    · rw [← cast, Nat.cast_le]
      exact guardNext_of_off off _
    · rw [← cast, Nat.cast_le]
      exact guardNext_of_on on _
  · intro role unread
    obtain ⟨sc, cu⟩ := sensed_of_not_axle (s := u) role
    rw [tempHoldNext_of_invalid (valid_iff.not.mpr unread)] at sc
    rw [codeStage_of_invalid (valid_iff.not.mpr unread)] at cu
    rw [count, hold, code', guarded, sc, cu]
    refine ⟨rfl, closedCode, closedGuard, ?_⟩
    simp only [Bool.or_eq_true, decide_eq_true_eq]
    rfl
  · exact fun held => shutCapacity_sinkStages u (.inr held)
  · intro axle
    rw [count, hold, code', guarded, sensed_of_axle (s := u) axle, closeWindows_sc, closedCode, closedGuard]
    exact ⟨rfl, rfl, rfl, rfl⟩

/-! ### The entry to DEGRADED (R151) -/

/-- SINK_DEGRADED is offered to the STX of the state before. -/
theorem degrade_stx {s v : State} (stc : v.stc = s.stc) (stx : v.stx = s.stx) (cause : DegradedCause) :
    (v.degrade cause).stx = (s.offerAlert (mkAlert .sinkDegraded s.stc.id (causeCode cause))).stx := by
  rw [degrade_eq, stc]
  exact offerAlert_stx_congr _ (congrArg Stc.state stc) stx

/-- A sink just DEGRADED commands nothing already. -/
theorem commandNext_of_scDegraded {s : State} {cause : DegradedCause} {sc : Sc} (entered : s.sc = scDegraded cause sc) :
    commandNext s = s.sc := by
  rw [commandNext_of_degraded (by rw [entered]; rfl), entered]
  split <;> rfl

theorem sensed_stx (s : State) : (sensed s).stx = s.stx := by rw [sensed_kept_but]

theorem inRange_congr {s t : State} (cfg : t.cfg = s.cfg) (inp : t.inp = s.inp) : InRange t ↔ InRange s := by
  unfold InRange State.role
  rw [cfg, inp]

/-- The expiry of a range fault: the sink released with its cause, nothing taken and nothing counted. -/
theorem sinkStages_values_of_rangeFault {s : State} (normal : s.sc.degraded = false) (outside : ¬InRange s) :
    s.sinkStages.sc = scDegraded (rangeFault (sensed s)) { (sensed s).sc with take := 0, supCount := 0 }
      ∧ s.sinkStages.stx
        = (s.offerAlert (mkAlert .sinkDegraded s.stc.id (causeCode (rangeFault (sensed s))))).stx := by
  rw [sinkStages_of_rangeFault normal outside]
  have taken : takeOf ((sensed s).degrade (rangeFault (sensed s))).formCapacity = 0 :=
    takeOf_of_outside ((inRange_congr (s := s) (by simp) (by simp)).not.mpr outside)
  have stx := degrade_stx (sensed_stc s) (sensed_stx s) (rangeFault (sensed s))
  have sc := degrade_sc (rangeFault (sensed s)) (sensed s)
  generalize (sensed s).degrade (rangeFault (sensed s)) = d at taken stx sc
  have entered : (d.formCapacity.takeStage.setSc { d.formCapacity.takeStage.sc with supCount := 0 }).sc
      = scDegraded (rangeFault (sensed s)) { (sensed s).sc with take := 0, supCount := 0 } := by
    change { d.sc with take := takeOf d.formCapacity, supCount := 0 } = _
    rw [taken, sc]
    rfl
  exact ⟨(commandNext_of_scDegraded entered).trans entered, stx⟩

/-- The expiry that ends the supervision periods: the sink released, its take measured. -/
theorem sinkStages_values_of_outOfTolerance {s : State} (normal : s.sc.degraded = false) (inside : InRange s)
    (many : supPeriodsUsed s.cfg ≤ supCounted (sensed s).formCapacity.takeStage) :
    s.sinkStages.sc = scDegraded .tolerance (tolerated s).sc
      ∧ s.sinkStages.stx = (s.offerAlert (mkAlert .sinkDegraded s.stc.id 1)).stx := by
  rw [sinkStages_of_outOfTolerance normal inside many]
  have entered : ((tolerated s).degrade .tolerance).formCapacity.sc = scDegraded .tolerance (tolerated s).sc :=
    degrade_sc .tolerance (tolerated s)
  refine ⟨(commandNext_of_scDegraded entered).trans entered, ?_⟩
  exact degrade_stx (by rw [tolerated_kept_but]) (by rw [tolerated_kept_but]) .tolerance

/-- The expiry of a sink in order. -/
theorem sinkStages_values_of_tolerated {s : State} (normal : s.sc.degraded = false) (inside : InRange s)
    (few : supCounted (sensed s).formCapacity.takeStage < supPeriodsUsed s.cfg) :
    s.sinkStages.sc.degraded = false ∧ s.sinkStages.sc.take = takeOf (sensed s).formCapacity
      ∧ s.sinkStages.sc.supCount = supCounted (sensed s).formCapacity.takeStage ∧ s.sinkStages.stx = s.stx := by
  by_cases role : s.role = .exhaust
  · rw [sinkStages_of_exhaust role normal inside few]
    exact ⟨normal, rfl, rfl, rfl⟩
  · rw [sinkStages_of_proportional role normal inside few]
    exact ⟨normal, rfl, rfl, rfl⟩

theorem released_values {m : State} (degraded : m.sc.degraded = true) :
    (released m).sc.degraded = true ∧ (released m).sc.cause = m.sc.cause ∧ (released m).sc.supCount = 0
      ∧ (released m).sc.take = m.sc.take ∧ (released m).stx = m.stx := by
  have next : (released m).sc = commandNext (m.setSc { m.sc with supCount := 0 }) := rfl
  rw [next, commandNext_of_degraded (s := m.setSc { m.sc with supCount := 0 }) degraded]
  split <;> exact ⟨degraded, rfl, rfl, rfl, rfl⟩

/-- The expiry of a DEGRADED sink: its take measured, the count at 0, nothing offered. -/
theorem sinkStages_values_of_degraded {s : State} (degraded : s.sc.degraded = true) :
    s.sinkStages.sc.degraded = true ∧ s.sinkStages.sc.cause = s.sc.cause ∧ s.sinkStages.sc.supCount = 0
      ∧ s.sinkStages.sc.take = takeOf (sensed s).formCapacity ∧ s.sinkStages.stx = s.stx := by
  have cause : (sensed s).sc.cause = s.sc.cause := by rw [sensed_sc]
  obtain ⟨on, cause', count, take, stx⟩ := released_values (m := (sensed s).formCapacity.takeStage)
    ((sensed_degraded s).trans degraded)
  rw [sinkStages_of_degraded degraded]
  exact ⟨on, cause'.trans cause, count, take, stx.trans (sensed_stx s)⟩

/-- Whatever made the sink DEGRADED, the command stage leaves it without a command. -/
theorem sinkStages_command_of_degraded {s : State} (degraded : s.sinkStages.sc.degraded = true) :
    s.sinkStages.sc.c = 0 ∧ (s.role = .exhaust → s.sinkStages.sc.kNow = 0) := by
  let x := (sensed s).feedbackStage.formCapacity.takeStage.supervisionStage
  have role : x.role = s.role := by
    rw [State.role, supervisionStage_cfg, takeStage_cfg, formCapacity_cfg, feedbackStage_cfg, sensed_cfg]
    rfl
  have next : s.sinkStages.sc = commandNext x := rfl
  have before : x.sc.degraded = true := by
    rw [next, (commandNext_sink_state x).1] at degraded
    exact degraded
  rw [next, commandNext_of_degraded before, role]
  split
  · exact ⟨rfl, fun _ => rfl⟩
  · next other => exact ⟨rfl, fun exhaust => absurd exhaust other⟩

/-- A sink that was NORMAL before has no step in force once DEGRADED. -/
theorem sinkStages_step_of_newly_degraded {s : State} (normal : s.sc.degraded = false)
    (degraded : s.sinkStages.sc.degraded = true) : s.sinkStages.sc.kNow = 0 := by
  by_cases inside : InRange s
  · obtain few | many := Nat.lt_or_ge (supCounted (sensed s).formCapacity.takeStage) (supPeriodsUsed s.cfg)
    · exact absurd ((sinkStages_values_of_tolerated normal inside few).1.symm.trans degraded) (by decide)
    · rw [(sinkStages_values_of_outOfTolerance normal inside many).1]
      rfl
  · rw [(sinkStages_values_of_rangeFault normal inside).1]
    rfl

theorem faultOutput_of_degraded {s : State} (op : operating s.stc.state = true) (degraded : s.sc.degraded = true) :
    faultOutput s = true := by
  unfold faultOutput
  cases state : s.stc.state with
  | config | localOnly | fault => rfl
  | listen | active | leaving => exact degraded
  | parked =>
    rw [state] at op
    cases op

theorem exsOutput_of_degraded {s : State} (step : s.role = .exhaust → s.sc.kNow = 0) : exsOutput s = 0 := by
  unfold exsOutput
  split
  · next exhaust => exact step exhaust
  · rfl

/-- Settles O46: the range fault, the end of the supervision periods, and the sink DEGRADED before. -/
theorem sinkBecomesDegraded : Obligations.SinkBecomesDegraded := by
  intro s fb temp pos op inRange step take commanded off alert
  let u := s.latchSink fb temp pos
  have worked : work (.sinkExpiry fb temp pos) s = u.sinkStages := work_sinkExpiry op fb temp pos
  have measured (inside : inRange) : takeOf (sensed u).formCapacity = take := takeOf_measured (s := u) inside
  have counted (inside : inRange) : supCounted (sensed u).formCapacity.takeStage
      = supCountNext s.cfg (mismatch take commanded) s.sc.supCount := by
    rw [supCounted_measured, measured inside]
    rfl
  have off_iff : ¬mismatch take commanded ≤ supTolUsed s.cfg ↔ off := by
    rw [mismatch_le_iff, not_le, Nat.cast_min]
    rfl
  refine ⟨_, exec_of_work worked, ?_, ?_, ?_, ?_, ?_⟩
  · simp only [drivePins_stc, sinkStages_stc]
    rfl
  · intro degraded
    obtain ⟨c, exhaustStep⟩ := sinkStages_command_of_degraded (s := u) degraded
    refine ⟨c, ?_, shutCapacity_sinkStages u (.inl degraded), ?_, ?_, ?_⟩
    · rintro (normal | exhaust)
      · exact sinkStages_step_of_newly_degraded (s := u) normal degraded
      · exact exhaustStep exhaust
    · exact faultOutput_of_degraded (s := u.sinkStages) (by rw [sinkStages_stc]; exact op) degraded
    · exact congrArg (BitVec.ofNat 10) (driveOutput_of_released c)
    · exact congrArg (BitVec.ofNat 3) (exsOutput_of_degraded (s := u.sinkStages)
        (by rw [State.role, sinkStages_cfg]; exact exhaustStep))
  · intro normal outside
    have outside' : ¬InRange (sensed u) := (inRange_sensed u).not.mpr outside
    have role : (sensed u).role = s.role := by
      rw [State.role, sensed_cfg]
      rfl
    obtain ⟨sc, stx⟩ := sinkStages_values_of_rangeFault (s := u) normal outside
    simp only [drivePins_sc, drivePins_stx, sc, stx]
    refine ⟨rfl, rfl, rfl, rfl, fun other => ?_, fun exhaust => ?_⟩
    · rw [rangeFault_of_not_exhaust outside' (role.trans_ne other)]
      exact ⟨rfl, offerAlert_stx_congr _ rfl rfl⟩
    · rw [rangeFault_of_exhaust outside' (role.trans exhaust)]
      exact ⟨rfl, offerAlert_stx_congr _ rfl rfl⟩
  · intro normal inside isOff
    have count := (counted inside).trans (supCountNext_of_off (off_iff.mpr isOff) _)
    obtain few | many := Nat.lt_or_ge (supCounted (sensed u).formCapacity.takeStage) (supPeriodsUsed s.cfg)
    · obtain ⟨off', taken, count', stx⟩ := sinkStages_values_of_tolerated (s := u) normal inside few
      rw [count] at few
      exact ⟨taken.trans (measured inside), fun many => absurd few (Nat.not_lt.mpr many),
        fun _ => ⟨off', count'.trans count, stx⟩⟩
    · obtain ⟨sc, stx⟩ := sinkStages_values_of_outOfTolerance (s := u) normal inside many
      rw [count] at many
      simp only [drivePins_sc, drivePins_stx, sc, stx]
      refine ⟨?_, fun _ => ⟨rfl, rfl, offerAlert_stx_congr _ rfl rfl⟩, fun few => absurd few (Nat.not_lt.mpr many)⟩
      rw [tolerated_kept_but]
      exact measured inside
  · intro degraded
    obtain ⟨on, cause, count, taken, stx⟩ := sinkStages_values_of_degraded (s := u) degraded
    refine ⟨on, cause, stx, count, fun _ inside => taken.trans (measured inside), fun exhaust => taken.trans ?_⟩
    have role : (sensed u).formCapacity.role = .exhaust := by
      rw [State.role, formCapacity_cfg, sensed_cfg]
      exact exhaust
    exact takeOf_of_no_capacity role (shutCapacity_formCapacity (sensed u) (.inl ((sensed_degraded u).trans degraded)))

end Sys2Proof.SinkFaults
end

section
/-! PROOFS. STC's evaluation by station state: the counts, and the ways to ACTIVE, LOCAL, LEAVING and PARKED (spec/08, 8.3 to 8.6). -/

namespace Sys2Proof.StationEvaluations

open Sys2Proof Sys2Proof.Machine Sys2Proof.Commands Sys2Proof.Paths Sys2Proof.Reception Sys2Proof.FrameEnds
  Sys2Proof.ValidFrames

/-- The state after the ignition sample and STC's counts, before any exit. -/
def counting (s : State) (ign : Bool) (stc : Stc) : State :=
  (s.latchIgn ign).setStc { stc with warnHold := s.stc.warnHold - 1 }

/-! ### The evaluation of each state (R160, R166 to R168) -/

section
variable {s : State} (ign : Bool)

theorem work_stcEvaluationExpiry (op : operating s.stc.state = true) :
    work (.stcEvaluationExpiry ign) s = (counting s ign s.stc).stationWork := by
  have counts : (s.latchIgn ign).warnCountdown = counting s ign s.stc := if_pos op
  rw [← counts]
  rfl

theorem work_of_idle (idle : s.stc.state = .config ∨ s.stc.state = .fault) :
    work (.stcEvaluationExpiry ign) s = s.latchIgn ign := by
  have still : (s.latchIgn ign).warnCountdown = s.latchIgn ign :=
    if_neg (by obtain state | state := idle <;> simp [state, operating])
  simp only [work, still, State.stationWork, latchIgn_stc]
  obtain state | state := idle <;> simp only [state]

theorem work_of_listen (listen : s.stc.state = .listen) :
    work (.stcEvaluationExpiry ign) s = (counting s ign s.stc).listenWork := by
  have state : (counting s ign s.stc).stc.state = .listen := listen
  rw [work_stcEvaluationExpiry ign (by rw [listen]; rfl), State.stationWork, state]

theorem work_of_driving (driving : s.stc.state = .active ∨ s.stc.state = .localOnly) :
    work (.stcEvaluationExpiry ign) s = (counting s ign s.stc).ignitionWork := by
  obtain active | localOnly := driving
  · have state : (counting s ign s.stc).stc.state = .active := active
    rw [work_stcEvaluationExpiry ign (by rw [active]; rfl), State.stationWork, state]
  · have state : (counting s ign s.stc).stc.state = .localOnly := localOnly
    rw [work_stcEvaluationExpiry ign (by rw [localOnly]; rfl), State.stationWork, state]

theorem work_of_leaving (leaving : s.stc.state = .leaving) :
    work (.stcEvaluationExpiry ign) s = (counting s ign s.stc).leavingWork := by
  have state : (counting s ign s.stc).stc.state = .leaving := leaving
  rw [work_stcEvaluationExpiry ign (by rw [leaving]; rfl), State.stationWork, state]

theorem listenWork_of_short (short : s.stc.listenCount + 1 < s.cfg.shared.listenPeriods) :
    (counting s ign s.stc).listenWork = counting s ign { s.stc with listenCount := s.stc.listenCount + 1 } :=
  if_neg (Nat.not_le.mpr short)

theorem listenWork_of_speaking (long : s.cfg.shared.listenPeriods ≤ s.stc.listenCount + 1) (speaks : s.lp.trouble < 192) :
    (counting s ign s.stc).listenWork
      = (counting s ign { s.stc with listenCount := s.stc.listenCount + 1 }).enterActive := by
  have not_silent : ¬(counting s ign s.stc).standing = .silent :=
    (standing_silent_iff (counting s ign s.stc)).not.mpr (Nat.not_le.mpr speaks)
  exact (if_pos long).trans (if_neg not_silent)

theorem listenWork_of_silent (long : s.cfg.shared.listenPeriods ≤ s.stc.listenCount + 1) (silent : 192 ≤ s.lp.trouble) :
    (counting s ign s.stc).listenWork
      = (counting s ign { s.stc with listenCount := s.stc.listenCount + 1 }).enterLocal :=
  (if_pos long).trans (if_pos ((standing_silent_iff (counting s ign s.stc)).mpr silent))

theorem ignitionWork_of_short (short : ignOffNext ign s.stc.ignOffCount < parkDelayUsed s.cfg) :
    (counting s ign s.stc).ignitionWork
      = counting s ign { s.stc with ignOffCount := ignOffNext ign s.stc.ignOffCount } := if_neg (Nat.not_le.mpr short)

theorem ignitionWork_of_active (active : s.stc.state = .active)
    (long : parkDelayUsed s.cfg ≤ ignOffNext ign s.stc.ignOffCount) :
    (counting s ign s.stc).ignitionWork
      = (counting s ign { s.stc with ignOffCount := ignOffNext ign s.stc.ignOffCount }).enterLeaving :=
  (if_pos long).trans (if_pos active)

theorem ignitionWork_of_local (localOnly : s.stc.state = .localOnly)
    (long : parkDelayUsed s.cfg ≤ ignOffNext ign s.stc.ignOffCount) :
    (counting s ign s.stc).ignitionWork
      = (counting s ign { s.stc with ignOffCount := ignOffNext ign s.stc.ignOffCount }).enterParked := by
  have other : ¬(counting s ign s.stc).stc.state = .active := by
    change ¬s.stc.state = .active
    rw [localOnly]
    decide
  exact (if_pos long).trans (if_neg other)

theorem leavingWork_of_short (short : s.stc.leaveCount + 1 < 10) :
    (counting s ign s.stc).leavingWork = counting s ign { s.stc with leaveCount := s.stc.leaveCount + 1 } :=
  if_neg (Nat.not_le.mpr short)

theorem leavingWork_of_long (long : 10 ≤ s.stc.leaveCount + 1) :
    (counting s ign s.stc).leavingWork
      = (counting s ign { s.stc with leaveCount := s.stc.leaveCount + 1 }).enterParked := if_pos long

/-- A count that has reached PARK_DELAY, which acts as 1 at least, is of an ignition found off. -/
theorem ign_off_of_long (long : parkDelayUsed s.cfg ≤ ignOffNext ign s.stc.ignOffCount) : ign = false := by
  cases ign with
  | false => rfl
  | true =>
    have positive : 1 ≤ parkDelayUsed s.cfg := Nat.le_max_left _ _
    exact absurd (positive.trans long) (Nat.not_succ_le_zero 0)

end

/-! ### What the entries leave (R50, R86, R87, R154, R161) -/

theorem enterActive_kept (s : State) :
    s.enterActive.stc = { s.stc with state := .active } ∧ s.enterActive.sc = { s.sc with supCount := 0 }
      ∧ s.enterActive.pe = s.pe ∧ s.enterActive.du = s.du ∧ s.enterActive.pt = s.pt := by
  simp [State.enterActive]

theorem enterActive_line (s : State) :
    s.enterActive.stx = filled .active s.stx
      ∧ s.enterActive.lp = { s.lp with origin := s.enterActive.lp.origin } ∧ OriginFollows s s.enterActive := by
  let opened := (s.setSc { s.sc with supCount := 0 }).setStc { s.stc with state := .active }
  exact ⟨fillUrgent_stx opened, congrArg State.lp (fillUrgent_onlyStxAndOrigin opened),
    originFollows_congr (originFollows_fillUrgent opened) rfl rfl rfl rfl⟩

theorem enterLeaving_line (s : State) :
    s.enterLeaving.stx = stxLeaving s.stx ∧ s.enterLeaving.lp.tx = s.lp.tx := by
  let emptied := (s.setPe Pe.idle).setDu (duCleared s.du)
  exact ⟨putStx_stx emptied _, (putStx_lp_kept emptied (stxLeaving s.stx)).2.1⟩

theorem enterLeaving_cleared (s : State) : s.enterLeaving.pe = Pe.idle ∧ s.enterLeaving.du = duCleared s.du := by
  simp [State.enterLeaving]

theorem isPending_slotCleared (slot : Slot) : isPending (slotCleared slot) = false := by cases slot <;> rfl

/-- The LEAVE takes the urgent slot, or follows the statement being sent (R87). -/
theorem stxLeaving_urgent (x : Stx) :
    (stxLeaving x).urgent = match x.urgent with
      | .sending h _ noRetry => .sending h (some .leave) noRetry
      | _ => .pending { stmt := .leave, seq := none, failed := 0 } := by
  unfold stxLeaving
  cases x.urgent <;> rfl

theorem enterLeaving_released (s : State) : s.enterLeaving.sc.c = 0 ∧ s.enterLeaving.sc.kNow = 0 := by
  rw [DemandAndCommand.enterLeaving_sc]
  exact ⟨rfl, rfl⟩

/-- Settles O48: state by state, the count kept or the exit taken. -/
theorem stationEvaluation : Obligations.StationEvaluation := by
  intro s ign counted off delay
  refine ⟨_, exec_eq_next_work _ _, ?_, ?_, ?_, ?_, ?_, ?_, ?_, ?_, ?_⟩
  · intro listen short
    exact drivePins_of_eq ((work_of_listen ign listen).trans (listenWork_of_short ign short))
  · intro listen long speaks
    rw [(work_of_listen ign listen).trans (listenWork_of_speaking ign long speaks)]
    obtain ⟨stc, sc, pe, du, pt⟩ := enterActive_kept (counting s ign { s.stc with listenCount := s.stc.listenCount + 1 })
    obtain ⟨stx, lp, follows⟩ := enterActive_line (counting s ign { s.stc with listenCount := s.stc.listenCount + 1 })
    refine ⟨congrArg Stc.state stc, sc, pe, du, pt, lp, follows, fun a rest empty queue => ?_, fun stays => ?_⟩
    · exact stx.trans (filled_of_alert empty queue)
    · exact stx.trans (stays.elim filled_of_no_alert filled_of_held)
  · intro listen long silent
    rw [(work_of_listen ign listen).trans (listenWork_of_silent ign long silent)]
    exact ⟨rfl, rfl, rfl, rfl⟩
  · intro driving short
    exact drivePins_of_eq ((work_of_driving ign driving).trans (ignitionWork_of_short ign short))
  · intro active long
    rw [(work_of_driving ign (.inl active)).trans (ignitionWork_of_active ign active long)]
    obtain ⟨stx, tx⟩ := enterLeaving_line (counting s ign { s.stc with ignOffCount := ignOffNext ign s.stc.ignOffCount })
    obtain ⟨c, kNow⟩ := enterLeaving_released (counting s ign { s.stc with ignOffCount := ignOffNext ign s.stc.ignOffCount })
    obtain ⟨pe, du⟩ := enterLeaving_cleared (counting s ign { s.stc with ignOffCount := ignOffNext ign s.stc.ignOffCount })
    simp only [drivePins_stx, drivePins_pe, drivePins_du, stx, pe, du]
    refine ⟨rfl, rfl, stxLeaving_urgent s.stx, isPending_slotCleared _, isPending_slotCleared _, tx, rfl, rfl, rfl, c, kNow,
      congrArg (BitVec.ofNat 10) (driveOutput_of_released c), congrArg (BitVec.ofNat 3) (exsOutput_of_released kNow)⟩
  · intro localOnly long
    rw [(work_of_driving ign (.inr localOnly)).trans (ignitionWork_of_local ign localOnly long)]
    obtain ⟨-, pt, tx, trouble, timer, state⟩ :=
      enterParked_values (counting s ign { s.stc with ignOffCount := ignOffNext ign s.stc.ignOffCount })
    have parked : (if ign = true then StationState.listen else .parked) = .parked :=
      if_neg (by rw [ign_off_of_long ign long]; decide)
    exact ⟨state.trans parked, timer, tx, trouble, fun j => (congrArg (slotGet · j) pt).trans (slotGet_empty j)⟩
  · intro leaving short
    exact drivePins_of_eq ((work_of_leaving ign leaving).trans (leavingWork_of_short ign short))
  · intro leaving long
    rw [(work_of_leaving ign leaving).trans (leavingWork_of_long ign long)]
    obtain ⟨stx, pt, tx, -, timer, state⟩ :=
      enterParked_values (counting s ign { s.stc with leaveCount := s.stc.leaveCount + 1 })
    exact ⟨state, timer, congrArg Stx.urgent stx, tx, fun j => (congrArg (slotGet · j) pt).trans (slotGet_empty j)⟩
  · intro idle
    exact drivePins_of_eq (work_of_idle ign idle)

end Sys2Proof.StationEvaluations
end
